-- ==== Sys2Proof/Word.lean ====
section
/-! DEFINITION. The words of the TW4: bytes, 32-bit register words, 64-bit host addresses, lines and node addresses. -/

namespace Sys2Proof

/-- One byte of host memory, of a record or of a line frame (00_scope section 5, little-endian fields). -/
abbrev Byte := BitVec 8

/-- One 32-bit register of the window (11 section 11.5). -/
abbrev Word := BitVec 32

/-- A 64-bit host memory address (00_scope section 5). -/
abbrev HostAddr := BitVec 64

/-- A line number, 0..3 (00_scope section 4, "Line"). -/
abbrev LineId := Fin 4

/-- A node's place in its line's table: `n` stands for the node address `n + 1`, 1..12 (R37). -/
abbrev Node := Fin 12

/-- The number of one of the nine fetched rings, 0..8 (R140). -/
abbrev RingId := Fin 9

end Sys2Proof
end

