-- ==== Sys2Proof/Config.lean ====
section
/-! DEFINITION. What the part fixes on the die, and the one free value of the model. -/

namespace Sys2Proof.Config

/-- What DEV_ID reads: family 0E74h, revision 0001h (11 section 11.5). -/
def devId : Word := 0x0E740001#32

/-- Records and reserved places a line queue holds at most (R86). -/
def queueDepth : Nat := 4

/-- Cached records and reserved places the Buffer Cache holds at most (R126). -/
def cacheDepth : Nat := 6

/-- Size of the configuration block in bytes (11 section 11.4). -/
def blockBytes : Nat := 240

/-- Size of the progress area in bytes (R145). -/
def progressBytes : Nat := 64

/-- Bytes a host must provide at a SEND's response address (R100, R169). -/
def responseBytes : Nat := 32

/-- Data bytes of a full segment (R19, R102). -/
def segmentBytes : Nat := 32

/-- Rounds in one period of UP after which the restart budget is reloaded (R32). -/
def reloadRounds : Nat := 16

/-- The top of a step's busy count (R83). -/
def busyTop : Nat := 256

/-- FREE VALUE (log 5). The spec leaves open which of several sources filled at the same moment the Completion Writer
takes first (R150, "either"). The k-th such choice is `firstSource k`; nothing constrains it. -/
opaque firstSource : Nat → Fin 5

end Sys2Proof.Config
end

