-- ==== Sys2Proof/Syntax.lean ====
section
/-! DEFINITION. The commands of the TW4: one constructor of `Instr` per row of spec/opcode_table.json, in the table's
order. The table gives the rows no operands and no bits; the operands below are what the spec's rules say each happening
brings with it (log 3). -/

namespace Sys2Proof

/-- The width of a host access to the register window: 1, 2, 3 or 4 bytes (R171). What a wider one does is not stated, and no
command carries it (DESIGN CHOICE, log 30). -/
inductive AccessSize where
  | byte
  | half
  | three
  | word
  deriving DecidableEq, Repr

/-- One of the two request queues of a line (R86). -/
inductive QueueSide where
  | urgent
  | routine
  deriving DecidableEq, Repr

/-- A byte as the Transceiver samples it: its eight data bits, and the level of its stop bit, `false` being a framing
error (R1). -/
structure RxByte where
  value : Byte
  stop : Bool
  deriving DecidableEq, Repr

/-- How a read of the configuration block ends (R159, R160): with its bytes, with a bus error after it was to bring
`length` bytes, or as a read whose data an abandoned load or a RESET discards (R161, R168). -/
inductive LoadEnd where
  | ok (data : List Byte)
  | busError (length : Nat)
  | discarded
  deriving DecidableEq, Repr

/-- How a read of a ring slot or of a STORE segment ends; `discarded` is a read that RESET or FAULTED gave up (R147,
R168). -/
inductive ReadEnd where
  | ok (data : List Byte)
  | busError
  | discarded
  deriving DecidableEq, Repr

/-- How a host memory write of the part ends; `discarded` is a write whose outcome RESET or FAULTED discards (R147,
R168). -/
inductive WriteEnd where
  | ok
  | busError
  | discarded
  deriving DecidableEq, Repr

/-- The commands, one per row of spec/opcode_table.json. -/
inductive Instr where
  /-- POWER_ON (R168). -/
  | powerOn
  /-- START (R159). -/
  | start
  /-- STOP (R164). -/
  | stop
  /-- RESET (R168). -/
  | reset
  /-- CONTROL_NO_COMMAND (R158). -/
  | controlNoCommand
  /-- POST (R142): the word written to POST. -/
  | post (value : Word)
  /-- COMPL_CONSUMED (R152): the word written to COMPL_CONSUMED. -/
  | complConsumed (value : Word)
  /-- INT_STATUS_WRITE (R155): the word written to INT_STATUS. -/
  | intStatusWrite (value : Word)
  /-- REGISTER_WRITE (R171): any other write to the 64-byte window. -/
  | registerWrite (offset : BitVec 6) (size : AccessSize) (value : Word)
  /-- CONFIG_READ_DONE (R160). -/
  | configReadDone (read : LoadEnd)
  /-- SETTLE_TIMER_EXPIRY (R25). -/
  | settleTimerExpiry (line : LineId)
  /-- COOLDOWN_TIMER_EXPIRY (R31). -/
  | cooldownTimerExpiry (line : LineId)
  /-- OVERCURRENT_TRIP (R26). -/
  | overcurrentTrip (line : LineId)
  /-- POLL_TIMER_EXPIRY (R60). -/
  | pollTimerExpiry (line : LineId)
  /-- BUSY_BACKOFF_EXPIRY (R84): the step at the head of the named queue. -/
  | busyBackoffExpiry (line : LineId) (side : QueueSide)
  /-- HOLDOFF_EXPIRY (R154). -/
  | holdoffExpiry
  /-- FRAME_SENT (R10). -/
  | frameSent (line : LineId)
  /-- REPLY_WINDOW_CLOSE (R4). -/
  | replyWindowClose (line : LineId)
  /-- END_OF_REPLY (R3): the bytes received, none when no complete byte followed the start bit. -/
  | endOfReply (line : LineId) (reply : List RxByte)
  /-- REPLY_OVERRUN (R3). -/
  | replyOverrun (line : LineId)
  /-- RING_READ_DONE (R144). -/
  | ringReadDone (read : ReadEnd)
  /-- PROGRESS_WRITE_DONE (R145). -/
  | progressWriteDone (write : WriteEnd)
  /-- SEGMENT_READ_DONE (R102). -/
  | segmentReadDone (line : LineId) (read : ReadEnd)
  /-- RESPONSE_WRITE_DONE (R100). -/
  | responseWriteDone (line : LineId) (write : WriteEnd)
  /-- FETCH_SEGMENT_WRITE_DONE (R107). -/
  | fetchSegmentWriteDone (line : LineId) (write : WriteEnd)
  /-- COLLECT_SEGMENT_WRITE_DONE (R132). -/
  | collectSegmentWriteDone (line : LineId) (write : WriteEnd)
  /-- COMPLETION_WRITE_DONE (R151). -/
  | completionWriteDone (write : WriteEnd)
  /-- NODE_START_BIT (R10). -/
  | nodeStartBit (line : LineId)
  deriving DecidableEq, Repr

end Sys2Proof
end

