-- ==== Sys2Proof/WellFormed.lean ====
section
/-! DEFINITION. Which commands are well formed: what the rules say a happening of its row can bring. `exec` is total, and
gives the terms refused here a meaning too (log 14, log 16). -/

namespace Sys2Proof

/-- The window offsets whose 32-bit writes are rows of their own: CONTROL, POST, COMPL_CONSUMED, INT_STATUS (11
section 11.5). -/
def ownRowOffset (offset : BitVec 6) : Bool :=
  offset == 0x04#6 || offset == 0x14#6 || offset == 0x18#6 || offset == 0x1C#6

/-- The well-formedness check of a command:
REGISTER_WRITE is "any other register write" (the table's row); a read of the block brings 1 to 240 bytes (R159); a ring
slot is 48 or 16 bytes (R140); a segment is 1 to 32 bytes (R102); a reply that ends before 40 byte times have passed has
at most 39 bytes (R3). -/
def Instr.wellFormed : Instr → Bool
  | .registerWrite offset size _ => !(size == .word && ownRowOffset offset)
  | .configReadDone (.ok data) => 1 ≤ data.length && data.length ≤ Config.blockBytes
  | .configReadDone (.busError length) => 1 ≤ length && length ≤ Config.blockBytes
  | .configReadDone .discarded => true
  | .endOfReply _ reply => reply.length ≤ 39
  | .ringReadDone (.ok data) => data.length == 48 || data.length == 16
  | .ringReadDone .busError => true
  | .ringReadDone .discarded => true
  | .segmentReadDone _ (.ok data) => 1 ≤ data.length && data.length ≤ Config.segmentBytes
  | .segmentReadDone _ .busError => true
  | .segmentReadDone _ .discarded => true
  | .powerOn => true
  | .start => true
  | .stop => true
  | .reset => true
  | .controlNoCommand => true
  | .post _ => true
  | .complConsumed _ => true
  | .intStatusWrite _ => true
  | .settleTimerExpiry _ => true
  | .cooldownTimerExpiry _ => true
  | .overcurrentTrip _ => true
  | .pollTimerExpiry _ => true
  | .busyBackoffExpiry _ _ => true
  | .holdoffExpiry => true
  | .frameSent _ => true
  | .replyWindowClose _ => true
  | .replyOverrun _ => true
  | .progressWriteDone _ => true
  | .responseWriteDone _ _ => true
  | .fetchSegmentWriteDone _ _ => true
  | .collectSegmentWriteDone _ _ => true
  | .completionWriteDone _ => true
  | .nodeStartBit _ => true

end Sys2Proof
end

