-- ==== Sys2Proof/Decode.lean ====
section
/-! DEFINITION. From words to commands. No row of spec/opcode_table.json has bits, so no word spells a command. What the
spec does decode is a host write to the register window: `commandOfWrite` says which row a write is (11 section 11.5,
R171). -/

namespace Sys2Proof

/-- The command a word of the opcode table spells. The table gives none of its 28 rows any bits ("n_rows_with_fixed": 0
in 98_reader.md), so no word spells one (log 2). -/
def decodeTableWord (_nbits _w : Nat) : Option Instr := none

/-- The command a CONTROL write names: bits 0..1 hold 1 START, 2 STOP, 3 RESET, and 0 names none; bits 2..31 are ignored
(11 section 11.5, R171). -/
def controlCommand (value : Word) : Instr :=
  if value.extractLsb' 0 2 = 1#2 then .start
  else if value.extractLsb' 0 2 = 2#2 then .stop
  else if value.extractLsb' 0 2 = 3#2 then .reset
  else .controlNoCommand

/-- The row of the table that a host write to the window is (11 section 11.5, R171). -/
def commandOfWrite (offset : BitVec 6) (size : AccessSize) (value : Word) : Instr :=
  match size with
  | .word =>
    if offset = 0x04#6 then controlCommand value
    else if offset = 0x14#6 then .post value
    else if offset = 0x18#6 then .complConsumed value
    else if offset = 0x1C#6 then .intStatusWrite value
    else .registerWrite offset .word value
  | .half => .registerWrite offset .half value
  | .three => .registerWrite offset .three value
  | .byte => .registerWrite offset .byte value

end Sys2Proof
end

