-- ==== Sys2Proof/Machine/State.lean ====
section
/-! DEFINITION. The state of the TW4 as plain data: the device, the Ring Fetcher, the Buffer Cache, the Completion Writer,
and four lines, each with its Line Driver, Line Transceiver, twelve Node Table entries, round state and Line Engine. -/

namespace Sys2Proof.Machine

/-- Why the machine stops with a fault: never. Everything the spec calls a fault is state: FAULTED (R167), a broken ring
(R146), a TRIPPED or FAILED line (R26, R30), an error code of STATUS (R157). Safe: there is no fault to raise (log 19). -/
inductive Fault where
  deriving DecidableEq, Repr

/-- Why a command is refused. -/
inductive Refusal where
  /-- Raised by an arm of `exec` whose command has no meaning yet; no arm raises it. Safe: it only stops. -/
  | notModelled (mnemonic : String)
  deriving DecidableEq, Repr

/-! ## Configuration -/

/-- A ring descriptor as loaded: base address and size exponent (R140, 11 section 11.4). -/
structure RingConfig where
  base : HostAddr
  exponent : Nat
  deriving DecidableEq, Repr

/-- The thirteen fields of one line's block (R160, 11 section 11.4), each in its own unit. -/
structure LineConfig where
  enabledAtStart : Bool
  rateCode : Nat
  pollPeriod : Nat
  replyTimeout : Nat
  retryLimit : Nat
  busyBudget : Nat
  busyBackoff : Nat
  missBudget : Nat
  dropLimit : Nat
  restartBudget : Nat
  settleTime : Nat
  cooldown : Nat
  probeMask : BitVec 16
  deriving DecidableEq, Repr

/-- A configuration block's fields: ten ring descriptors (0..8 the fetched rings, 9 the completion ring), the progress
area address, the two coalescing values and the four line blocks (R160, 11 section 11.4). -/
structure LoadedConfig where
  rings : Vector RingConfig 10
  progress : HostAddr
  coalescing : Nat
  holdoff : Nat
  lines : Vector LineConfig 4
  deriving DecidableEq, Repr

/-- The Configuration Loader's load under way: the block address taken at START, the working copy read so far, and whether
a read has ended in a bus error (R159, R160). -/
structure Loader where
  base : HostAddr
  copy : List Byte
  failed : Bool
  deriving DecidableEq, Repr

/-! ## Records -/

/-- The status codes 0..15 and event codes 32..42 of a completion record (11 section 11.3). -/
inductive Code where
  | ok | aborted | notFound | badRequest | badNode | noNode | nodeBarred | noReply | garbled | busyLimit | refused
  | lineDown | cancelled | busError | badBuffer | unconfirmed
  | nodeJoined | nodeSilent | nodeRejoined | nodeLost | addressConflict | nodeAlert
  | lineUp | lineTripped | lineFailed | lineOff | ringFault
  deriving DecidableEq, Repr

/-- The type of a completion record (11 section 11.3). -/
inductive CompletionType where
  | result | arrival | event
  deriving DecidableEq, Repr

/-- A completion record as its source makes it: all fields but the stamp and the phase (R93, R114, R137, R151). -/
structure Completion where
  type : CompletionType
  line : LineId
  code : Code
  node : Byte
  tag : BitVec 16
  count : BitVec 16
  detail : BitVec 32
  deriving DecidableEq, Repr

/-- The record the Completion Writer has taken and is writing: with its stamp and phase (R150, R151). -/
structure WrittenRecord where
  record : Completion
  stamp : BitVec 32
  phase : Bool
  deriving DecidableEq, Repr

/-- A request record's used fields, as fetched and not examined (11 section 11.1, R86, R144). -/
structure Request where
  kind : Byte
  node : Byte
  tag : BitVec 16
  action : Byte
  length : BitVec 16
  targetTag : BitVec 16
  hostAddr : HostAddr
  payload : List Byte
  deriving DecidableEq, Repr

/-- A supply record (8.1, 11 section 11.2). -/
structure SupplyRecord where
  addr : HostAddr
  size : BitVec 16
  id : BitVec 32
  deriving DecidableEq, Repr

/-! ## Line Driver and Line Transceiver -/

/-- A timer: stopped, or running with the microseconds of the Time Base left (R163, log 13). -/
abbrev Timer := Option Nat

/-- Line Driver states (R23). -/
inductive DriverState where
  | off | settling | up | tripped | cooldown | failed
  deriving DecidableEq, Repr

/-- A Line Driver (R23). -/
structure Driver where
  state : DriverState
  restartsLeft : Nat
  roundsSinceUp : Nat
  settle : Timer
  cooldown : Timer
  deriving DecidableEq, Repr

/-- The eight kinds of master frame (R6). -/
inductive FrameKind where
  | poll | identify | command | wdata | ropen | rdata | collect | close
  deriving DecidableEq, Repr

/-- The reason byte of a CLOSE (R6). -/
inductive CloseReason where
  | done | abandoned | collected
  deriving DecidableEq, Repr

/-- A master frame before its CRC: kind, address, toggle, FIRST flag and payload (R5). -/
structure Frame where
  kind : FrameKind
  node : Node
  toggle : Bool
  first : Bool
  payload : List Byte
  deriving DecidableEq, Repr

/-- The three kinds of node reply (R7). -/
inductive ReplyKind where
  | ack | nakBusy | nakRefused
  deriving DecidableEq, Repr

/-- A reply that passed the checks of R9: its kind, its payload and its four indications (R7). -/
structure Reply where
  kind : ReplyKind
  payload : List Byte
  offer : Bool
  alert : Bool
  last : Bool
  toggle : Bool
  deriving DecidableEq, Repr

/-- Transceiver states (R10). -/
inductive XcvrState where
  | idle | sending | waiting | receiving
  deriving DecidableEq, Repr

/-- A Line Transceiver: its state, the frame of the exchange, the attempts made, those that were GARBLED, and the reply
window (R4, R10, R11). -/
structure Transceiver where
  state : XcvrState
  frame : Option Frame
  attempts : Nat
  garbled : Nat
  window : Timer
  deriving DecidableEq, Repr

/-! ## Node Table -/

/-- Node Table entry states (R37). -/
inductive EntryState where
  | vacant | present | silent | conflict | barred
  deriving DecidableEq, Repr

/-- A Node Table entry (R37). -/
structure Entry where
  state : EntryState
  identity : Option (BitVec 32)
  capability : Option (BitVec 16)
  sendToggle : Bool
  recvToggle : Bool
  missCount : Nat
  silentMisses : Nat
  offerLength : Option Nat
  alert : Bool
  rejoinCheck : Bool
  deriving DecidableEq, Repr

/-! ## Round state -/

/-- Kinds of round (R62). -/
inductive RoundKind where
  | discovery | ordinary | slow
  deriving DecidableEq, Repr

/-- One turn of a round's list (R63, R64, R65). -/
inductive Turn where
  | poll (node : Node)
  | identify (node : Node)
  | probe (node : Node)
  deriving DecidableEq, Repr

/-- A round in progress: its kind, its fixed list of turns and the position of its next turn (R59). -/
structure Round where
  kind : RoundKind
  turns : List Turn
  position : Nat
  deriving DecidableEq, Repr

/-- The round state of a line (R59). -/
structure Rounds where
  pollTimer : Timer
  pending : Bool
  discovery : Bool
  number : BitVec 16
  round : Option Round
  rejoin : Option Node
  cursor : Node
  deriving DecidableEq, Repr

/-! ## Line Engine -/

/-- Line Engine states (R75). -/
inductive EngineState where
  | inactive | idle | exchanging | blocked | frozen
  deriving DecidableEq, Repr

/-- The kinds of record that hold a transfer context (R96). -/
inductive TransferKind where
  | send | store | fetch
  deriving DecidableEq, Repr

/-- The step an active record tries next (R96): the COMMAND, the WDATA of segment k, the ROPEN, the RDATA after bytes
done, or the closing exchange, which holds the status decided before it (R112). -/
inductive NextStep where
  | command
  | wdata (k : Nat)
  | ropen
  | rdata
  | closing (status : Code)
  deriving DecidableEq, Repr

/-- The transfer context of the active routine record (R96). -/
structure Transfer where
  tag : BitVec 16
  node : Node
  kind : TransferKind
  length : Nat
  hostAddr : HostAddr
  available : Option Nat
  bytesDone : Nat
  next : NextStep
  held : Option (List Byte)
  sessionOpen : Bool
  busyCount : Nat
  deadline : Timer
  abortFlag : Bool
  deriving DecidableEq, Repr

/-- The next step of a collection (R130). -/
inductive CollectStep where
  | collect | close
  deriving DecidableEq, Repr

/-- The collection context (R130). -/
structure Collection where
  node : Node
  offerLength : Nat
  buffer : Option SupplyRecord
  bytesWritten : Nat
  firstSent : Bool
  next : CollectStep
  deriving DecidableEq, Repr

/-- The work an exchange belongs to (R41 step 4, R77). -/
inductive Purpose where
  /-- The COMMAND of an urgent SEND (R88). -/
  | urgentSend
  /-- The IDENTIFY of a PROBE (R55). -/
  | urgentProbe
  /-- The CLOSE ABANDONED of an ABORT (R120). -/
  | abortClose
  /-- The POLL of a poll turn (R66). -/
  | poll
  /-- The IDENTIFY of an identify turn or of the probe turn (R65, R70). -/
  | identifyTurn
  /-- The rejoin IDENTIFY (R48). -/
  | rejoin
  /-- A COLLECT of the collection (R131, R132). -/
  | collect
  /-- The CLOSE COLLECTED of the collection (R135). -/
  | closeCollected
  /-- A step of the active routine record (R83). -/
  | step
  /-- The closing exchange of the active routine record (R111). -/
  | closing
  deriving DecidableEq, Repr

/-- What the judgement of a FETCH segment decided for after its write (R107, R108). -/
inductive FetchAfter where
  /-- It fits, LAST clear: the next RDATA follows. -/
  | more
  /-- It fits, LAST set: the FETCH completes OK. -/
  | last
  /-- Mismatch with LAST clear: CLOSE ABANDONED, then GARBLED. -/
  | mismatchOpen
  /-- Mismatch with LAST set: GARBLED without a CLOSE. -/
  | mismatchEnded
  deriving DecidableEq, Repr

/-- What the judgement of a collection's segment decided for after its write (R132, R133). -/
inductive CollectAfter where
  | more | last | mismatch
  deriving DecidableEq, Repr

/-- The host memory access of a unit of work (R98): its address, and its data or how much it reads. -/
inductive HostAccess where
  | segmentRead (addr : HostAddr) (length : Nat)
  | responseWrite (side : QueueSide) (addr : HostAddr) (data : List Byte)
  | fetchWrite (addr : HostAddr) (data : List Byte) (after : FetchAfter)
  | collectWrite (addr : HostAddr) (data : List Byte) (after : CollectAfter)
  deriving DecidableEq, Repr

/-- What is left of a unit of work once its owed records are placed (R94, R95; log 7). -/
inductive Cont where
  /-- Nothing: the engine is at a boundary (R76). -/
  | boundary
  /-- Start the host write of the exchange's data (R98). -/
  | access (a : HostAccess)
  /-- Run the closing exchange of the active record, with the status decided before it (R111, R112). -/
  | closing (reason : CloseReason) (status : Code)
  /-- The turn is over: move the round's position on (R66, R72). -/
  | advance
  /-- End of trip processing: act on the restart budget (R30). -/
  | tripBudget
  /-- The ON half of a POWER CYCLE (R35 steps 2 and 3). -/
  | cycleOn
  /-- Step 5 of the STOP cancellation (R165). -/
  | stopLineOff
  /-- The cancellation's last record is placed: INACTIVE (R165). -/
  | stopDone
  deriving DecidableEq, Repr

/-- The state change a rule ties to the placing of a record (R93). -/
inductive PlaceEffect where
  | none
  /-- LINE_TRIPPED and LINE_OFF: every entry not BARRED is cleared to VACANT (R39). -/
  | clearEntries
  /-- LINE_FAILED: the driver goes from TRIPPED to FAILED and the trip processing is finished (R30). -/
  | driverFailed
  deriving DecidableEq, Repr

/-- A record produced and not yet placed (R75, R93). -/
structure Owed where
  record : Completion
  effect : PlaceEffect
  deriving DecidableEq, Repr

/-- A Line Engine (R75, R86 to R88, R93, R96, R130). -/
structure Engine where
  state : EngineState
  urgent : List Request
  routine : List Request
  urgentReserved : Nat
  routineReserved : Nat
  urgentBusy : Nat
  urgentDeadline : Timer
  transfer : Option Transfer
  collection : Option Collection
  slot : Option Completion
  owed : List Owed
  cont : Cont
  purpose : Option Purpose
  access : Option HostAccess
  tripPending : Bool
  lineUpOwed : Bool
  cutOff : Bool
  deriving DecidableEq, Repr

/-- One line: its driver, transceiver, twelve Node Table entries, round state and engine (00_scope section 1.1). -/
structure Line where
  driver : Driver
  xcvr : Transceiver
  table : Vector Entry 12
  rounds : Rounds
  engine : Engine
  deriving DecidableEq, Repr

/-! ## Ring Fetcher, Completion Writer, device -/

/-- What the Ring Fetcher holds for one fetched ring (R141). -/
structure Ring where
  tail : Nat
  consumer : Nat
  broken : Bool
  deriving DecidableEq, Repr

/-- The access of the fetch in progress: the read of the slot, or the write of the progress word (R143, R144). -/
inductive FetchPhase where
  | read | progress
  deriving DecidableEq, Repr

/-- The fetch in progress (R143). -/
structure Fetch where
  ring : RingId
  phase : FetchPhase
  deriving DecidableEq, Repr

/-- The Ring Fetcher's round-robin pointer and fetch in progress (R143). -/
structure Fetcher where
  pointer : RingId
  fetch : Option Fetch
  deriving DecidableEq, Repr

/-- The Completion Writer (R149). -/
structure Writer where
  producer : BitVec 16
  consumed : BitVec 16
  phase : Bool
  unannounced : Nat
  holdoff : Timer
  pointer : Fin 5
  write : Option WrittenRecord
  deriving DecidableEq, Repr

/-- An access of the part on the host bus whose result is to be discarded (R147, R161, R168; log 11). -/
inductive BusAccess where
  | configRead
  | ringRead
  | progressWrite
  | segmentRead (line : LineId)
  | responseWrite (line : LineId)
  | fetchWrite (line : LineId)
  | collectWrite (line : LineId)
  | completionWrite
  deriving DecidableEq, Repr

/-- Device states (R157). -/
inductive DeviceState where
  | halted | loading | running | stopping | faulted
  deriving DecidableEq, Repr

/-- Error codes of STATUS (R157). -/
inductive ErrorCode where
  | none | cmdRefused | configRange | loadBusError | completionBusError
  deriving DecidableEq, Repr

/-- The whole TW4, with the model's queue of waiting commands (`pending`, log 1) and its count of free choices read
(`freeCount`, log 5). -/
structure State where
  device : DeviceState
  error : ErrorCode
  errorField : BitVec 8
  configBaseLo : Word
  configBaseHi : Word
  intStatus : BitVec 4
  intEnable : BitVec 4
  complConsumed : BitVec 10
  stamp : BitVec 32
  loader : Option Loader
  loaded : Option LoadedConfig
  rings : Vector Ring 9
  fetcher : Fetcher
  cache : List SupplyRecord
  cacheReserved : Nat
  serviceSlot : Option Completion
  serviceOwed : List Completion
  writer : Writer
  lines : Vector Line 4
  discarding : List BusAccess
  freeCount : Nat
  pending : List Instr
  deriving DecidableEq, Repr

/-! ## The values after power-on -/

/-- A ring at power-on, RESET and entry to RUNNING (R141). -/
def Ring.initial : Ring := { tail := 0, consumer := 0, broken := false }

/-- The Ring Fetcher at power-on, RESET and entry to RUNNING (R143). -/
def Fetcher.initial : Fetcher := { pointer := 8, fetch := none }

/-- The Completion Writer at power-on, RESET and entry to RUNNING (R149). -/
def Writer.initial : Writer :=
  { producer := 0, consumed := 0, phase := true, unannounced := 0, holdoff := none, pointer := 4, write := none }

/-- A Line Driver at power-on and RESET (R23). -/
def Driver.initial : Driver :=
  { state := .off, restartsLeft := 0, roundsSinceUp := 0, settle := none, cooldown := none }

/-- A Line Transceiver at power-on, RESET and START (R10): IDLE, holding no frame. -/
def Transceiver.initial : Transceiver :=
  { state := .idle, frame := none, attempts := 0, garbled := 0, window := none }

/-- A Node Table entry at power-on (R38). -/
def Entry.initial : Entry :=
  { state := .vacant, identity := none, capability := none, sendToggle := false, recvToggle := false, missCount := 0,
    silentMisses := 0, offerLength := none, alert := false, rejoinCheck := false }

/-- The round state at power-on, RESET and entry to RUNNING (R59); the probe cursor is at address 12. -/
def Rounds.initial : Rounds :=
  { pollTimer := none, pending := false, discovery := false, number := 0, round := none, rejoin := none, cursor := 11 }

/-- A Line Engine's empty values in the given state (R75). -/
def Engine.initial (state : EngineState) : Engine :=
  { state := state, urgent := [], routine := [], urgentReserved := 0, routineReserved := 0, urgentBusy := 0,
    urgentDeadline := none, transfer := none, collection := none, slot := none, owed := [], cont := .boundary,
    purpose := none, access := none, tripPending := false, lineUpOwed := false, cutOff := false }

/-- A line at power-on (R10, R23, R38, R59, R75). -/
def Line.initial : Line :=
  { driver := Driver.initial, xcvr := Transceiver.initial, table := Vector.replicate 12 Entry.initial,
    rounds := Rounds.initial, engine := Engine.initial .inactive }

/-- The machine right after power-on (R168), with no command waiting. -/
def State.reset : State :=
  { device := .halted, error := .none, errorField := 0, configBaseLo := 0, configBaseHi := 0, intStatus := 0,
    intEnable := 0, complConsumed := 0, stamp := 0, loader := none, loaded := none,
    rings := Vector.replicate 9 Ring.initial, fetcher := Fetcher.initial, cache := [], cacheReserved := 0,
    serviceSlot := none, serviceOwed := [], writer := Writer.initial, lines := Vector.replicate 4 Line.initial,
    discarding := [], freeCount := 0, pending := [] }

end Sys2Proof.Machine
end

