-- ==== Sys2Proof/Machine/Operands.lean ====
section
/-! DEFINITION. Every operand form: the byte layouts of records, frames, replies, the configuration block and register
words (chapter 11), the CRC-8 (R5), and the judgement of a received reply (R8, R9). -/

namespace Sys2Proof.Machine

/-! ## Bytes -/

/-- The number a run of little-endian bytes holds (00_scope section 5). -/
def leNat : List Byte → Nat
  | [] => 0
  | b :: bs => b.toNat + 256 * leNat bs

/-- `n` little-endian bytes of the number `v` (00_scope section 5). -/
def leBytes : Nat → Nat → List Byte
  | 0, _ => []
  | n + 1, v => BitVec.ofNat 8 v :: leBytes n (v / 256)

/-- The little-endian field of `size` bytes at byte offset `off` (chapter 11). -/
def field (bytes : List Byte) (off size : Nat) : Nat := leNat ((bytes.drop off).take size)

/-- Exactly `n` bytes: what a read of `n` bytes brought, short data being filled with zero bytes (log 14). -/
def exactly (n : Nat) (data : List Byte) : List Byte := (data ++ List.replicate n 0#8).take n

/-- Whether a buffer of `size` bytes at `addr` stays below the top of the 64-bit address space. -/
def fitsTop (addr : HostAddr) (size : Nat) : Bool := addr.toNat + size ≤ 2 ^ 64

/-! ## The line: bytes, CRC-8, frames and replies -/

/-- The levels of one byte on the line in order: start bit 0, eight data bits least significant first, stop bit 1 (R1). -/
def byteLevels (b : Byte) : List Bool :=
  false :: (List.range 8).map (fun i => b.getLsbD i) ++ [true]

/-- A byte from the nine levels sampled after its start bit: eight data bits, then the stop bit (R1). -/
def sampleByte (levels : List Bool) : RxByte :=
  { value := BitVec.ofNat 8 ((levels.take 8).zipIdx.foldl (fun n p => n + p.1.toNat * 2 ^ p.2) 0),
    stop := levels.getD 8 true }

/-- One bit step of the CRC register for generator x^8 + x^5 + x^3 + x^2 + x + 1 (R5). -/
def crcBit (r : Byte) : Byte := if r.msb then (r <<< 1) ^^^ 0x2F#8 else r <<< 1

/-- The CRC register after one more byte, most significant bit first (R5). -/
def crcByte (r b : Byte) : Byte :=
  crcBit (crcBit (crcBit (crcBit (crcBit (crcBit (crcBit (crcBit (r ^^^ b))))))))

/-- CRC-8 of a run of bytes: preset FFh, final value not inverted (R5). -/
def crc8 (bytes : List Byte) : Byte := bytes.foldl crcByte 0xFF#8

/-- The node address of a table place: 1..12 (R37). -/
def Node.address (n : Node) : Nat := n.val + 1

/-- The table place of an address byte, if it is in 1..12 (R90). -/
def nodeOf (b : Byte) : Option Node :=
  if h : 1 ≤ b.toNat ∧ b.toNat ≤ 12 then some ⟨b.toNat - 1, by omega⟩ else none

/-- Frame kind codes (11 section 11.6). -/
def FrameKind.code : FrameKind → Nat
  | .poll => 1
  | .identify => 2
  | .command => 3
  | .wdata => 4
  | .ropen => 5
  | .rdata => 6
  | .collect => 7
  | .close => 8

/-- CLOSE reason codes (11 section 11.6). -/
def CloseReason.byte : CloseReason → Byte
  | .done => 1
  | .abandoned => 2
  | .collected => 3

/-- Whether the frame kind carries the send toggle (R5, R6). -/
def FrameKind.carriesSend : FrameKind → Bool
  | .command => true
  | .wdata => true
  | .ropen => true
  | _ => false

/-- Whether the frame kind carries the receive toggle as the expected toggle (R5, R6). -/
def FrameKind.carriesRecv : FrameKind → Bool
  | .rdata => true
  | .collect => true
  | _ => false

/-- The frame of a kind to a node whose entry is `e`: its toggle is the entry's send or receive toggle by the kind, and 0
for the kinds that carry none (R5, R14, R18). -/
def Frame.build (e : Entry) (kind : FrameKind) (node : Node) (first : Bool) (payload : List Byte) : Frame :=
  { kind := kind, node := node,
    toggle := (kind.carriesSend && e.sendToggle) || (kind.carriesRecv && e.recvToggle),
    first := first, payload := payload }

/-- The control byte: bit 0 toggle, bit 1 FIRST, the rest 0 (11 section 11.6, R172). -/
def Frame.control (f : Frame) : Byte := BitVec.ofNat 8 (f.toggle.toNat + 2 * f.first.toNat)

/-- The header byte: bits 0..3 address, bits 4..7 kind (11 section 11.6). -/
def Frame.header (f : Frame) : Byte := BitVec.ofNat 8 (Node.address f.node + 16 * f.kind.code)

/-- The bytes of a master frame in the order they are sent: header, control, payload, CRC-8 (R5). -/
def Frame.bytes (f : Frame) : List Byte :=
  let body := f.header :: f.control :: f.payload
  body ++ [crc8 body]

/-- Bit times a frame or reply of so many payload bytes takes (R1, R5, section 1.8). -/
def wireBits (payloadLength : Nat) : Nat := 10 * (3 + payloadLength)

/-- The bit rate of a bit-rate code, none for code 3 (R2). -/
def bitRate : Nat → Option Nat
  | 0 => some 19200
  | 1 => some 38400
  | 2 => some 76800
  | _ => none

/-- The reply kind of a header's kind code; codes 0..8 and 12..15 name none (11 section 11.6, R172). -/
def replyKind (code : Nat) : Option ReplyKind :=
  if code = 9 then some .ack else if code = 10 then some .nakBusy else if code = 11 then some .nakRefused else none

/-- Whether an ACK payload is one data segment: 32 bytes with LAST clear, or 1..32 bytes with LAST set (R8). -/
def segmentLegal (r : Reply) : Bool :=
  if r.last then 1 ≤ r.payload.length && r.payload.length ≤ 32 else r.payload.length == 32

/-- Whether a reply's kind and payload are accepted for the frame (R8, R172). -/
def replyAccepted (f : Frame) (r : Reply) : Bool :=
  match r.kind with
  | .ack =>
    match f.kind with
    | .poll => r.payload.length == 1 && r.offer == (leNat r.payload != 0)
    | .identify => r.payload.length == 6
    | .command => r.payload.length ≤ 32
    | .wdata => r.payload.length == 0
    | .ropen => r.payload.length == 2 && leNat r.payload ≤ leNat f.payload
    | .rdata => segmentLegal r
    | .collect => segmentLegal r
    | .close => r.payload.length == 0
  | .nakBusy =>
    (match f.kind with
      | .identify => false
      | .close => false
      | _ => true) && r.payload.length == 0
  | .nakRefused =>
    (match f.kind with
      | .poll => false
      | .identify => false
      | .close => false
      | _ => true) && r.payload.length == 0

/-- Whether the toggle of an ACK agrees with the frame's: the echo for COMMAND, WDATA and ROPEN, the data toggle for RDATA
and COLLECT; other replies' toggles are not examined (R7, R9 items 5 and 6). -/
def toggleAgrees (f : Frame) (r : Reply) : Bool :=
  !(r.kind == .ack && (f.kind.carriesSend || f.kind.carriesRecv)) || r.toggle == f.toggle

/-- The reply read from its bytes: header, status byte, payload, CRC (R7, 11 section 11.6); none when the header names no
reply kind. -/
def parseReply (bytes : List Byte) : Option Reply :=
  match replyKind ((bytes.getD 0 0).toNat / 16) with
  | none => none
  | some k =>
    let status := bytes.getD 1 0
    some { kind := k, payload := (bytes.drop 2).dropLast, toggle := status.getLsbD 0, last := status.getLsbD 1,
           offer := status.getLsbD 2, alert := status.getLsbD 3 }

/-- Whether a reply was cut short: a framing error, or fewer than three bytes (R3). -/
def cutShort (rx : List RxByte) : Bool := !(rx.all (·.stop)) || rx.length < 3

/-- The judgement of a reply at its end (R9): the reply when VALID, none when GARBLED. -/
def judge (f : Frame) (rx : List RxByte) : Option Reply :=
  let bytes := rx.map (·.value)
  if cutShort rx then none
  else if crc8 bytes.dropLast ≠ bytes.getLastD 0 then none
  else if (bytes.getD 0 0).toNat % 16 ≠ Node.address f.node then none
  else
    match parseReply bytes with
    | none => none
    | some r => if replyAccepted f r && toggleAgrees f r then some r else none

/-! ## Request and supply records -/

/-- The request kinds (11 section 11.1). -/
inductive RequestKind where
  | send | store | fetch | abort | bar | unbar | probe | power
  deriving DecidableEq, Repr

/-- The kind of a kind code; 0 and 9..255 name none (11 section 11.1, R169). -/
def requestKind (b : Byte) : Option RequestKind :=
  match b.toNat with
  | 1 => some .send
  | 2 => some .store
  | 3 => some .fetch
  | 4 => some .abort
  | 5 => some .bar
  | 6 => some .unbar
  | 7 => some .probe
  | 8 => some .power
  | _ => none

/-- The actions of a POWER (R33 to R35). -/
inductive PowerAction where
  | on | off | cycle
  deriving DecidableEq, Repr

/-- The action of an action code; 0 and 4..255 name none (11 section 11.1, R169). -/
def powerAction (b : Byte) : Option PowerAction :=
  match b.toNat with
  | 1 => some .on
  | 2 => some .off
  | 3 => some .cycle
  | _ => none

/-- A request record from the 48 bytes of its slot (11 section 11.1). -/
def Request.ofBytes (b : List Byte) : Request :=
  { kind := b.getD 0 0, node := b.getD 1 0, tag := BitVec.ofNat 16 (field b 2 2), action := b.getD 4 0,
    length := BitVec.ofNat 16 (field b 8 2), targetTag := BitVec.ofNat 16 (field b 10 2),
    hostAddr := BitVec.ofNat 64 (field b 16 8), payload := exactly 24 (b.drop 24) }

/-- A supply record from the 16 bytes of its slot (11 section 11.2). -/
def SupplyRecord.ofBytes (b : List Byte) : SupplyRecord :=
  { addr := BitVec.ofNat 64 (field b 0 8), size := BitVec.ofNat 16 (field b 8 2), id := BitVec.ofNat 32 (field b 12 4) }

/-- The qualification check of a supply record (R127). -/
def SupplyRecord.qualifies (r : SupplyRecord) : Bool :=
  256 ≤ r.size.toNat && r.size.toNat ≤ 4096 && r.size.toNat % 4 == 0 && r.addr.toNat % 4 == 0 &&
    fitsTop r.addr r.size.toNat

/-- Whether a record is ill formed for its ring: the BAD_REQUEST check (R89, R169). -/
def Request.badRequest (side : QueueSide) (r : Request) : Bool :=
  match requestKind r.kind with
  | none => true
  | some .send =>
    r.length.toNat < 1 || 24 < r.length.toNat ||
      (r.hostAddr != 0#64 && !fitsTop r.hostAddr Config.responseBytes)
  | some .store =>
    side == .urgent || r.length.toNat < 1 || 4096 < r.length.toNat || !fitsTop r.hostAddr r.length.toNat
  | some .fetch =>
    side == .urgent || r.length.toNat < 1 || 4096 < r.length.toNat || !fitsTop r.hostAddr r.length.toNat
  | some .power => side == .routine || (powerAction r.action).isNone
  | some .abort => side == .routine
  | some .bar => side == .routine
  | some .unbar => side == .routine
  | some .probe => side == .routine

/-- Whether a record's kind names a node and its address is outside 1..12: the BAD_NODE check (R90). -/
def Request.badNode (r : Request) : Bool :=
  match requestKind r.kind with
  | none => false
  | some .power => false
  | some .abort => false
  | some _ => (nodeOf r.node).isNone

/-! ## Completion record and progress word -/

/-- Status and event codes (11 section 11.3). -/
def Code.byte : Code → Byte
  | .ok => 0 | .aborted => 1 | .notFound => 2 | .badRequest => 3 | .badNode => 4 | .noNode => 5 | .nodeBarred => 6
  | .noReply => 7 | .garbled => 8 | .busyLimit => 9 | .refused => 10 | .lineDown => 11 | .cancelled => 12
  | .busError => 13 | .badBuffer => 14 | .unconfirmed => 15
  | .nodeJoined => 32 | .nodeSilent => 33 | .nodeRejoined => 34 | .nodeLost => 35 | .addressConflict => 36
  | .nodeAlert => 37 | .lineUp => 38 | .lineTripped => 39 | .lineFailed => 40 | .lineOff => 41 | .ringFault => 42

/-- Type numbers; type 0 is never written (11 section 11.3). -/
def CompletionType.number : CompletionType → Nat
  | .result => 1
  | .arrival => 2
  | .event => 3

/-- The 16 bytes of a completion record as written (11 section 11.3). -/
def WrittenRecord.bytes (w : WrittenRecord) : List Byte :=
  let r := w.record
  [BitVec.ofNat 8 (w.phase.toNat + 2 * r.type.number + 8 * r.line.val), r.code.byte, r.node, 0] ++
    leBytes 2 r.tag.toNat ++ leBytes 2 r.count.toNat ++ leBytes 4 w.stamp.toNat ++ leBytes 4 r.detail.toNat

/-- The two bytes of a progress word: the consumer index in bits 0..9, bits 10..15 written 0 (R145, 11 section 11.2,
R170). -/
def progressWord (consumer : Nat) : List Byte := leBytes 2 (consumer % 1024)

/-! ## Configuration block -/

/-- The number of slots of a ring (R140). -/
def RingConfig.size (c : RingConfig) : Nat := 2 ^ c.exponent

/-- Slot size by descriptor: 48 bytes for the request rings 0..7, 16 for the supply and completion rings (R140). -/
def slotBytes (descriptor : Nat) : Nat := if descriptor < 8 then 48 else 16

/-- The address of slot `i` of a ring (R140). -/
def RingConfig.slotAddr (c : RingConfig) (descriptor i : Nat) : HostAddr :=
  c.base + BitVec.ofNat 64 (i * slotBytes descriptor)

/-- A ring descriptor read from the block (11 section 11.4). -/
def ringConfigOf (b : List Byte) (d : Nat) : RingConfig :=
  { base := BitVec.ofNat 64 (field b (16 * d) 8), exponent := field b (16 * d + 8) 1 }

/-- A line block read from the block; bits 1..7 of the flag and bits 2..7 of the rate code are not used (11 section 11.4,
R170). -/
def lineConfigOf (b : List Byte) (n : Nat) : LineConfig :=
  let f := fun j => field b (176 + 16 * n + j) 1
  { enabledAtStart := f 0 % 2 == 1, rateCode := f 1 % 4, pollPeriod := f 2, replyTimeout := f 3, retryLimit := f 4,
    busyBudget := f 5, busyBackoff := f 6, missBudget := f 7, dropLimit := f 8, restartBudget := f 9,
    settleTime := f 10, cooldown := f 11, probeMask := BitVec.ofNat 16 (field b (176 + 16 * n + 12) 2) }

/-- The configuration a block of 240 bytes holds (11 section 11.4). -/
def LoadedConfig.ofBytes (b : List Byte) : LoadedConfig :=
  { rings := Vector.ofFn (fun d : Fin 10 => ringConfigOf b d.val), progress := BitVec.ofNat 64 (field b 160 8),
    coalescing := field b 168 1, holdoff := field b 169 1,
    lines := Vector.ofFn (fun n : Fin 4 => lineConfigOf b n.val) }

/-- The two checks of ring descriptor `d`: base, then size exponent (R160). -/
def ringChecks (d : Nat) (c : RingConfig) : List Bool :=
  [c.base.toNat % 64 == 0, 4 ≤ c.exponent && c.exponent ≤ 10 && fitsTop c.base (c.size * slotBytes d)]

/-- The thirteen checks of a line block in index order (R160). -/
def lineChecks (c : LineConfig) : List Bool :=
  [true, c.rateCode ≤ 2, 1 ≤ c.pollPeriod && c.pollPeriod ≤ 255, 1 ≤ c.replyTimeout && c.replyTimeout ≤ 32,
   c.retryLimit ≤ 7, c.busyBudget ≤ 255, 1 ≤ c.busyBackoff && c.busyBackoff ≤ 255,
   1 ≤ c.missBudget && c.missBudget ≤ 15, 1 ≤ c.dropLimit && c.dropLimit ≤ 31, c.restartBudget ≤ 7,
   10 ≤ c.settleTime && c.settleTime ≤ 255, 1 ≤ c.cooldown && c.cooldown ≤ 25, true]

/-- All 75 field checks in ascending order of index (R160, 11 section 11.4). -/
def LoadedConfig.checks (c : LoadedConfig) : List Bool :=
  c.rings.toList.zipIdx.flatMap (fun p => ringChecks p.2 p.1) ++
    [c.progress.toNat % 8 == 0 && fitsTop c.progress Config.progressBytes,
     1 ≤ c.coalescing && c.coalescing ≤ 32, c.holdoff ≤ 255] ++
    c.lines.toList.flatMap lineChecks

/-- The index, from 1, of the first field that fails its check (R157, R160). -/
def LoadedConfig.firstBadField (c : LoadedConfig) : Option Nat :=
  (c.checks.findIdx? (fun ok => !ok)).map (· + 1)

/-! ## Register fields -/

/-- The ring number field of a POST word (11 section 11.5). -/
def postRing (v : Word) : Nat := (v.extractLsb' 0 4).toNat

/-- The tail index field of a POST word (11 section 11.5). -/
def postTail (v : Word) : Nat := (v.extractLsb' 16 10).toNat

/-- The slot index field of a COMPL_CONSUMED word; bits 10..31 are ignored (R171). -/
def consumedIndex (v : Word) : BitVec 10 := v.extractLsb' 0 10

/-- The cause bits of an INT_STATUS or INT_ENABLE word; bits 4..31 are ignored (R171). -/
def causeBits (v : Word) : BitVec 4 := v.extractLsb' 0 4

end Sys2Proof.Machine
end

