-- ==== Sys2Proof/Machine/Ops.lean ====
section
/-! DEFINITION. The named operations shared by the meanings: lines and their configuration, Node Table entries, completion
records and their placing, the line supply, and the ends of units of work. -/

namespace Sys2Proof.Machine

/-! ## Reaching into the state -/

/-- Line `l` of the part. -/
def State.line (s : State) (l : LineId) : Line := s.lines.get l

/-- The state with line `l` replaced. -/
def State.setLine (s : State) (l : LineId) (ln : Line) : State := { s with lines := s.lines.set l.val ln l.isLt }

/-- The state with every line changed by `f`. -/
def State.mapLines (s : State) (f : Line → Line) : State := { s with lines := s.lines.map f }

/-- Ring `r` of the Ring Fetcher (R141). -/
def State.ring (s : State) (r : RingId) : Ring := s.rings.get r

/-- The state with ring `r` replaced. -/
def State.setRing (s : State) (r : RingId) (g : Ring) : State := { s with rings := s.rings.set r.val g r.isLt }

/-- A line configuration with nothing in it, read where no configuration has been loaded; no block uses it (R168). -/
def LineConfig.empty : LineConfig :=
  { enabledAtStart := false, rateCode := 0, pollPeriod := 0, replyTimeout := 0, retryLimit := 0, busyBudget := 0,
    busyBackoff := 0, missBudget := 0, dropLimit := 0, restartBudget := 0, settleTime := 0, cooldown := 0,
    probeMask := 0 }

/-- The loaded configuration of line `l`. -/
def State.lineConfig (s : State) (l : LineId) : LineConfig :=
  match s.loaded with
  | some c => c.lines.get l
  | none => LineConfig.empty

/-- The size of ring descriptor `d` in the loaded configuration, 0 when none is loaded (R140). -/
def State.descriptorSize (s : State) (d : Fin 10) : Nat :=
  match s.loaded with
  | some c => (c.rings.get d).size
  | none => 0

/-- The size of fetched ring `r` (R140). -/
def State.ringSize (s : State) (r : RingId) : Nat := s.descriptorSize ⟨r.val, by omega⟩

/-- The size of the completion ring (R140). -/
def State.complSize (s : State) : Nat := s.descriptorSize 9

/-- What a line's engine works with: its line's number and loaded configuration. -/
structure LineCtx where
  line : LineId
  cfg : LineConfig
  deriving DecidableEq, Repr

/-- The context of line `l`. -/
def State.ctx (s : State) (l : LineId) : LineCtx := { line := l, cfg := s.lineConfig l }

/-- A timer of `n` milliseconds, started now. -/
def startMs (n : Nat) : Timer := some (1000 * n)

/-! ## Node Table entries -/

/-- The entry of node `n`. -/
def Line.entry (ln : Line) (n : Node) : Entry := ln.table.get n

/-- The line with the entry of node `n` replaced. -/
def Line.setEntry (ln : Line) (n : Node) (e : Entry) : Line := { ln with table := ln.table.set n.val e n.isLt }

/-- Clearing an entry to VACANT: identity, capability and offer length absent, counts and marks 0, the toggles kept
(R37). -/
def Entry.clear (e : Entry) : Entry :=
  { Entry.initial with sendToggle := e.sendToggle, recvToggle := e.recvToggle }

/-- Every entry that is not BARRED is cleared to VACANT (R39). -/
def Line.clearEntries (ln : Line) : Line :=
  { ln with table := ln.table.map (fun e => if e.state = .barred then e else e.clear) }

/-! ## Completion records -/

/-- The RESULT of a request record: its tag, line and node byte, the status, count and detail (R92, R114, R116). -/
def resultRecord (l : LineId) (r : Request) (code : Code) (count : Nat) (detail : BitVec 32) : Completion :=
  { type := .result, line := l, code := code, node := r.node, tag := r.tag, count := BitVec.ofNat 16 count,
    detail := detail }

/-- An ARRIVAL: tag 0, the buffer id in the detail field (R137). -/
def arrivalRecord (l : LineId) (node : Byte) (code : Code) (id : BitVec 32) (count : Nat) : Completion :=
  { type := .arrival, line := l, code := code, node := node, tag := 0, count := BitVec.ofNat 16 count, detail := id }

/-- A node event: the line and address, tag 0 (R40). -/
def nodeEvent (l : LineId) (n : Node) (code : Code) (count : BitVec 16) (detail : BitVec 32) : Completion :=
  { type := .event, line := l, code := code, node := BitVec.ofNat 8 (Node.address n), tag := 0, count := count,
    detail := detail }

/-- A line event: node, tag and count 0 (11 section 11.3). -/
def lineEvent (l : LineId) (code : Code) (detail : Nat) : Completion :=
  { type := .event, line := l, code := code, node := 0, tag := 0, count := 0, detail := BitVec.ofNat 32 detail }

/-- A tag in a detail field: the low 16 bits (11 section 11.3). -/
def tagDetail (tag : BitVec 16) : BitVec 32 := tag.setWidth 32

/-- The detail of a RESULT other than an ABORTED record's: the target tag of an ABORT, whatever its status, and 0 for every
other kind (R116, 11 section 11.3). -/
def Request.resultDetail (r : Request) : BitVec 32 :=
  if requestKind r.kind = some .abort then tagDetail r.targetTag else 0

/-- Produce a record: it joins the owed records, with the state change tied to its placing (R93). -/
def Line.produceWith (ln : Line) (c : Completion) (effect : PlaceEffect) : Line :=
  { ln with engine := { ln.engine with owed := ln.engine.owed ++ [⟨c, effect⟩] } }

/-- Produce a record whose placing changes nothing else. -/
def Line.produce (ln : Line) (c : Completion) : Line := ln.produceWith c .none

/-- Produce several records in order. -/
def Line.produceAll (ln : Line) (cs : List Completion) : Line := cs.foldl Line.produce ln

/-- The state change tied to a placing (R30, R39). -/
def Line.applyEffect (ln : Line) : PlaceEffect → Line
  | .none => ln
  | .clearEntries => ln.clearEntries
  | .driverFailed =>
    { ln with driver := { ln.driver with state := .failed }, engine := { ln.engine with tripPending := false } }

/-- Place an owed record in the empty slot (R93, R95). -/
def Line.place (ln : Line) (o : Owed) (rest : List Owed) : Line :=
  ({ ln with engine := { ln.engine with slot := some o.record, owed := rest } }).applyEffect o.effect

/-! ## Units of work -/

/-- The engine with the rest of its unit set (R94). -/
def Line.setCont (ln : Line) (k : Cont) : Line := { ln with engine := { ln.engine with cont := k } }

/-- The engine after its exchange or host access has ended: it does what it still owes and comes to a boundary (R76). -/
def Line.endWork (ln : Line) : Line :=
  { ln with engine := { ln.engine with state := .idle, purpose := none, access := none, cont := .boundary } }

/-- Start a host access of the unit of work; while it is in flight the engine is EXCHANGING (R98). -/
def Line.startAccess (ln : Line) (a : HostAccess) : Line :=
  { ln with engine := { ln.engine with state := .exchanging, access := some a, cont := .boundary } }

/-- The engine takes the result of an exchange of the given purpose that ended FAILED with cause TRIP: it was cut off by a
trip, or met the driver not UP and ended after zero attempts. The Transceiver is IDLE, no entry changes, and an urgent SEND
or PROBE is noted for the trip processing (R12, R13, R26, R29 step 2). -/
def Line.exchangeTripped (ln : Line) (p : Purpose) : Line :=
  let ln := { ln.endWork with xcvr := Transceiver.initial }
  match p with
  | .urgentSend => { ln with engine := { ln.engine with cutOff := true } }
  | .urgentProbe => { ln with engine := { ln.engine with cutOff := true } }
  | _ => ln

/-- Hand an exchange to the Transceiver. No frame goes to a BARRED entry (R51). With the driver UP the first attempt's
frame begins (R10); otherwise the exchange ends at once FAILED with cause TRIP after zero attempts (R12). -/
def Line.handOver (ln : Line) (p : Purpose) (f : Frame) : Line :=
  if (ln.entry f.node).state = .barred then ln.endWork
  else if ln.driver.state = .up then
    { ln with
      xcvr := { state := .sending, frame := some f, attempts := 0, garbled := 0, window := none },
      engine := { ln.engine with state := .exchanging, purpose := some p, access := none, cont := .boundary } }
  else ln.exchangeTripped p

/-- The urgent head completes: its RESULT is produced, it leaves the queue, and the urgent head state is cleared (R88). -/
def Line.completeUrgent (ln : Line) (l : LineId) (code : Code) (count : Nat) (detail : BitVec 32) : Line :=
  match ln.engine.urgent with
  | [] => ln
  | r :: rest =>
    ({ ln with engine := { ln.engine with urgent := rest, urgentBusy := 0, urgentDeadline := none, cutOff := false } }).produce
      (resultRecord l r code count detail)

/-- The routine head completes: its RESULT is produced, it leaves the queue, and a transfer context is made absent
(R87, R96). -/
def Line.completeRoutine (ln : Line) (l : LineId) (code : Code) (count : Nat) (detail : BitVec 32) : Line :=
  match ln.engine.routine with
  | [] => { ln with engine := { ln.engine with transfer := none } }
  | r :: rest =>
    ({ ln with engine := { ln.engine with routine := rest, transfer := none } }).produce
      (resultRecord l r code count detail)

/-- The line with its transfer context replaced. -/
def Line.setTransfer (ln : Line) (t : Transfer) : Line :=
  { ln with engine := { ln.engine with transfer := some t } }

/-- The active record, if any, completes with the count of R97 for the point it has reached. -/
def Line.completeActive (ln : Line) (l : LineId) (code : Code) (detail : BitVec 32) : Line :=
  match ln.engine.transfer with
  | none => ln
  | some t => ln.completeRoutine l code t.bytesDone detail

/-- A collection's buffer, if it holds one, is returned as an ARRIVAL with the bytes written so far, and the collection
ends; a collection without a buffer is dropped (R137, R138). -/
def Line.returnCollection (ln : Line) (l : LineId) (code : Code) : Line :=
  match ln.engine.collection with
  | none => ln
  | some k =>
    let ln := { ln with engine := { ln.engine with collection := none } }
    match k.buffer with
    | none => ln
    | some b => ln.produce (arrivalRecord l (BitVec.ofNat 8 (Node.address k.node)) code b.id k.bytesWritten)

/-- A busy count after one more NAK_BUSY: it stays at 256 (R83). -/
def busyNext (count : Nat) : Nat := if count < Config.busyTop then count + 1 else count

/-- Whether a busy count is above a busy budget of 1..255; budget 0 is no limit (R83). -/
def busyOver (cfg : LineConfig) (count : Nat) : Bool := cfg.busyBudget != 0 && cfg.busyBudget < count

/-! ## Line supply -/

/-- Apply the supply: SETTLING with the settle timer started and the cooldown timer stopped (R24, R31, R33). -/
def Driver.applySupply (d : Driver) (cfg : LineConfig) : Driver :=
  { d with state := .settling, settle := startMs cfg.settleTime, cooldown := none }

/-- Remove the supply and stop both timers: OFF (R23, R34, R165). -/
def Driver.turnOff (d : Driver) : Driver := { d with state := .off, settle := none, cooldown := none }

/-- What the engine does at the moment the line leaves UP: the poll timer stops, the pending-round mark clears, a round in
progress is abandoned with its rejoin pending, busy backoffs end, and a collection that holds no buffer is dropped (R27,
R59, R130). -/
def Line.leaveUp (ln : Line) : Line :=
  { ln with
    rounds := { ln.rounds with pollTimer := none, pending := false, round := none, rejoin := none },
    engine := { ln.engine with
      urgentDeadline := none,
      transfer := ln.engine.transfer.map (fun t => { t with deadline := none }),
      collection := ln.engine.collection.filter (fun k => k.buffer.isSome) } }

/-- The line switched OFF; if it was UP it leaves UP (R34 step 1, R165 step 5). -/
def Line.turnOff (ln : Line) : Line :=
  let off := { ln with driver := ln.driver.turnOff }
  if ln.driver.state = .up then off.leaveUp else off

/-! ## Interrupt causes and errors -/

/-- INT_STATUS cause bits (11 section 11.5). -/
def causeCompletion : BitVec 4 := 1#4

/-- INT_STATUS.state_change. -/
def causeStateChange : BitVec 4 := 2#4

/-- INT_STATUS.fault. -/
def causeFault : BitVec 4 := 4#4

/-- INT_STATUS.post_error. -/
def causePostError : BitVec 4 := 8#4

/-- A cause arises: its bit is set, and stays set if it was (R155). -/
def State.raise (s : State) (cause : BitVec 4) : State := { s with intStatus := s.intStatus ||| cause }

/-- STATUS error code and field index set together (R157). -/
def State.setError (s : State) (code : ErrorCode) (index : BitVec 8) : State :=
  { s with error := code, errorField := index }

/-- A refused command: CMD_REFUSED where the error code is NONE, nothing else (R158). -/
def State.refuseCommand (s : State) : State :=
  if s.error = .none then { s with error := .cmdRefused } else s

/-- A record produced for the service slot joins the service owed list (R148). -/
def State.oweService (s : State) (c : Completion) : State := { s with serviceOwed := s.serviceOwed ++ [c] }

end Sys2Proof.Machine
end

