-- ==== Sys2Proof/Machine/NodeTable.lean ====
section
/-! DEFINITION. What the result of an exchange does to the entry of the node it was addressed to: toggles, counts and state
with their events, and the alert, in the order of R41. -/

namespace Sys2Proof.Machine

/-- Why an exchange FAILED (R11). -/
inductive FailCause where
  | noReply | garbled | trip
  deriving DecidableEq, Repr

/-- An exchange result handed to the engine (R11, R13): VALID with its reply, or FAILED; with the attempts finished and the
number GARBLED; and whether a trip cut it off. -/
structure ExchangeResult where
  reply : Option Reply
  attempts : Nat
  garbled : Nat
  tripped : Bool := false
  deriving DecidableEq, Repr

/-- The cause of a FAILED exchange: TRIP if a trip cut it off; otherwise NO_REPLY if the garbled count is 0, GARBLED if it is
1 or more (R11, R13). -/
def ExchangeResult.cause (r : ExchangeResult) : FailCause :=
  if r.tripped then .trip else if r.garbled = 0 then .noReply else .garbled

/-- The status a FAILED exchange gives the work it belonged to; for a TRIP it is the one the trip processing gives (R29,
R99). -/
def FailCause.code : FailCause → Code
  | .noReply => .noReply
  | .garbled => .garbled
  | .trip => .lineDown

/-- The result of the exchange that a trip cuts off: FAILED with cause TRIP, with the counts of the attempts already
finished; the attempt under way is given no outcome and is not counted (R13). An attempt is counted when its frame has been
sent (R10), and is under way until its reply window or reply ends. -/
def Transceiver.cutOffResult (t : Transceiver) : ExchangeResult :=
  { reply := none, tripped := true, garbled := t.garbled,
    attempts := match t.state with
      | .waiting => t.attempts - 1
      | .receiving => t.attempts - 1
      | .sending => t.attempts
      | .idle => t.attempts }

/-- A node event an entry's change posts, before its line and address are filled in (R40). -/
structure EntryEvent where
  code : Code
  count : BitVec 16
  detail : BitVec 32
  deriving DecidableEq, Repr

/-- The identity an event of the entry reports (R40). -/
def Entry.identityDetail (e : Entry) : BitVec 32 := e.identity.getD 0

/-- The offer length field for a reported length: absent when 0 (R37, R67). -/
def offerOf (n : Nat) : Option Nat := if n = 0 then none else some n

/-- The entry after a join with the given identity and capability (R44). -/
def Entry.join (identity : BitVec 32) (capability : BitVec 16) : Entry :=
  { Entry.initial with state := .present, identity := some identity, capability := some capability }

/-- Step 1 of R41, the toggles: a VALID ACK inverts the toggle its frame kind carries, and a VALID IDENTIFY sets both
toggles to 0 (R14, R17, R18). -/
def Entry.applyToggles (e : Entry) (kind : FrameKind) (r : Reply) : Entry :=
  if r.kind ≠ .ack then e
  else if kind.carriesSend then { e with sendToggle := !e.sendToggle }
  else if kind.carriesRecv then { e with recvToggle := !e.recvToggle }
  else if kind = .identify then { e with sendToggle := false, recvToggle := false }
  else e

/-- The identity bytes of an ACK to IDENTIFY (11 section 11.6). -/
def identityOf (r : Reply) : BitVec 32 := BitVec.ofNat 32 (field r.payload 0 4)

/-- The capability bytes of an ACK to IDENTIFY (11 section 11.6). -/
def capabilityOf (r : Reply) : BitVec 16 := BitVec.ofNat 16 (field r.payload 4 2)

/-- The joined entry and its events when another identity replaces the entry's (R49, R56). -/
def Entry.replaced (e : Entry) (identity : BitVec 32) (capability : BitVec 16) : Entry × List EntryEvent :=
  (Entry.join identity capability,
    [⟨.nodeLost, 0, e.identityDetail⟩, ⟨.nodeJoined, capability, identity⟩])

/-- A VALID IDENTIFY: a join from VACANT or CONFLICT (R43, R44, R58), an identity check of a PRESENT entry (R56), a rejoin
check of a SILENT one (R49, R57). -/
def Entry.identifyValid (e : Entry) (identity : BitVec 32) (capability : BitVec 16) : Entry × List EntryEvent :=
  match e.state with
  | .vacant => (Entry.join identity capability, [⟨.nodeJoined, capability, identity⟩])
  | .conflict => (Entry.join identity capability, [⟨.nodeJoined, capability, identity⟩])
  | .present =>
    if e.identity = some identity then ({ e with capability := some capability, missCount := 0 }, [])
    else e.replaced identity capability
  | .silent =>
    if e.identity = some identity then
      ({ e with state := .present, capability := some capability, missCount := 0, silentMisses := 0,
                rejoinCheck := false },
        [⟨.nodeRejoined, capability, identity⟩])
    else e.replaced identity capability
  | .barred => (e, [])

/-- The offer length after a POLL reply: set from an ACK, kept by a NAK_BUSY (R47, R67, R68). -/
def Entry.pollOffer (e : Entry) (r : Reply) : Entry :=
  if r.kind = .ack then { e with offerLength := offerOf (leNat r.payload) } else e

/-- Step 2 of R41 for a VALID result: counts and state (R43 to R49, R56 to R58, R67, R68). -/
def Entry.applyValid (e : Entry) (kind : FrameKind) (r : Reply) : Entry × List EntryEvent :=
  match kind with
  | .identify => e.identifyValid (identityOf r) (capabilityOf r)
  | .poll =>
    match e.state with
    | .present => ({ e.pollOffer r with missCount := 0 }, [])
    | .silent => ({ e.pollOffer r with rejoinCheck := true }, [])
    | _ => (e, [])
  | _ => if e.state = .present then ({ e with missCount := 0 }, []) else (e, [])

/-- One more silent miss of a SILENT entry, given up at the drop limit (R47, R49). -/
def Entry.silentMiss (e : Entry) (cfg : LineConfig) : Entry × List EntryEvent :=
  if cfg.dropLimit ≤ e.silentMisses + 1 then (e.clear, [⟨.nodeLost, 0, e.identityDetail⟩])
  else ({ e with silentMisses := e.silentMisses + 1 }, [])

/-- One more miss of a PRESENT entry, SILENT at the miss budget (R45, R46). -/
def Entry.miss (e : Entry) (cfg : LineConfig) : Entry × List EntryEvent :=
  if cfg.missBudget ≤ e.missCount + 1 then
    ({ e with state := .silent, missCount := 0, silentMisses := 0, rejoinCheck := false },
      [⟨.nodeSilent, 0, e.identityDetail⟩])
  else ({ e with missCount := e.missCount + 1 }, [])

/-- Step 2 of R41 for a result FAILED with cause NO_REPLY or GARBLED (R43, R45, R47, R49, R56 to R58). -/
def Entry.applyFailed (e : Entry) (cfg : LineConfig) (kind : FrameKind) (res : ExchangeResult) :
    Entry × List EntryEvent :=
  match e.state with
  | .present => e.miss cfg
  | .silent =>
    match kind with
    | .identify => { e with rejoinCheck := false }.silentMiss cfg
    | .poll => e.silentMiss cfg
    | _ => (e, [])
  | .vacant =>
    if kind = .identify ∧ res.garbled = res.attempts then
      ({ e with state := .conflict }, [⟨.addressConflict, 0, BitVec.ofNat 32 res.attempts⟩])
    else (e, [])
  | .conflict =>
    if kind = .identify ∧ res.garbled ≠ res.attempts then (e.clear, []) else (e, [])
  | .barred => (e, [])

/-- Step 3 of R41: the entry's alert follows the ALERT indication of a VALID reply; a rise from 0 to 1 posts NODE_ALERT
(R42). -/
def Entry.applyAlert (e : Entry) (r : Reply) : Entry × List EntryEvent :=
  if e.state = .present ∨ e.state = .silent then
    ({ e with alert := r.alert }, if r.alert && !e.alert then [⟨.nodeAlert, 0, e.identityDetail⟩] else [])
  else (e, [])

/-- Steps 1 to 3 of R41: the entry after the exchange, and the events it posts, in order. -/
def Entry.afterExchange (e : Entry) (cfg : LineConfig) (kind : FrameKind) (res : ExchangeResult) :
    Entry × List EntryEvent :=
  match res.reply with
  | some r =>
    let (e2, evs2) := (e.applyToggles kind r).applyValid kind r
    let (e3, evs3) := e2.applyAlert r
    (e3, evs2 ++ evs3)
  | none => e.applyFailed cfg kind res

/-- The entry after BAR (R52): BARRED, everything else as cleared, the toggles kept. -/
def Entry.bar (e : Entry) : Entry := { e.clear with state := .barred }

/-- The entry after UNBAR (R54): a BARRED entry is cleared to VACANT, any other is unchanged. -/
def Entry.unbar (e : Entry) : Entry := if e.state = .barred then e.clear else e

end Sys2Proof.Machine
end

