-- ==== Sys2Proof/Machine/Power.lean ====
section
/-! DEFINITION. Line power as the Line Engine sees it: LINE_UP, trip processing, the restart budget, and the POWER request
(chapter 2). -/

namespace Sys2Proof.Machine

/-- LINE_UP is posted: it is placed in the empty slot and the LINE_UP-owed mark is cleared (R25, R75, R76 step 1). -/
def Line.postLineUp (ln : Line) (l : LineId) : Line :=
  { ln with engine := { ln.engine with
      slot := some (lineEvent l .lineUp ln.driver.restartsLeft), lineUpOwed := false } }

/-- Step 2 of R29: the urgent record whose exchange the trip cut off. An ABORT's CLOSE is marked by the abort flag: its
target completes ABORTED and the ABORT OK (R121); an urgent SEND or PROBE completes LINE_DOWN. -/
def Line.completeCutOff (ln : Line) (l : LineId) : Line :=
  match ln.engine.transfer, ln.engine.urgent with
  | some t, a :: _ =>
    if t.abortFlag then
      (ln.completeRoutine l .aborted t.bytesDone (tagDetail a.tag)).completeUrgent l .ok 0 (tagDetail a.targetTag)
    else if ln.engine.cutOff then ln.completeUrgent l .lineDown 0 0
    else ln
  | _, _ => if ln.engine.cutOff then ln.completeUrgent l .lineDown 0 0 else ln

/-- Trip processing up to its step 4 (R29), begun with the slot empty and nothing owed (R28): LINE_TRIPPED, whose placing
clears the entries, the cut-off urgent record, the active record's LINE_DOWN, the collection's ARRIVAL. The budget step
follows when they are placed. -/
def Line.processTrip (ln : Line) (l : LineId) : Line :=
  ((((ln.produceWith (lineEvent l .lineTripped ln.driver.restartsLeft) .clearEntries).completeCutOff l).completeActive
    l .lineDown 0).returnCollection l .lineDown).setCont .tripBudget

/-- The end of trip processing (R30): a restart is spent and the cooldown runs, or LINE_FAILED is posted, at whose placing
the driver goes to FAILED. -/
def Line.tripBudget (ln : Line) (x : LineCtx) : Line :=
  let ln := ln.setCont .boundary
  if 0 < ln.driver.restartsLeft then
    { ln with
      driver := { ln.driver with
        state := .cooldown, restartsLeft := ln.driver.restartsLeft - 1, cooldown := startMs (100 * x.cfg.cooldown) },
      engine := { ln.engine with tripPending := false } }
  else ln.produceWith (lineEvent x.line .lineFailed 0) .driverFailed

/-- The supply is applied by a POWER request or at start: the restart budget is reloaded and the driver enters SETTLING
(R24, R32, R33). -/
def Line.powerUp (ln : Line) (cfg : LineConfig) : Line :=
  { ln with driver := { ln.driver.applySupply cfg with restartsLeft := cfg.restartBudget } }

/-- Steps 1 to 4 of POWER OFF from a state other than OFF (R34): the supply removed, LINE_OFF whose placing clears the
entries, the active record's LINE_DOWN, the collection's ARRIVAL. -/
def Line.powerDown (ln : Line) (l : LineId) : Line :=
  (((ln.turnOff).produceWith (lineEvent l .lineOff 0) .clearEntries).completeActive l .lineDown 0).returnCollection l
    .lineDown

/-- POWER ON (R33): it acts in OFF, FAILED and COOLDOWN, and leaves SETTLING and UP as they are. -/
def Line.powerOn (ln : Line) (x : LineCtx) : Line :=
  match ln.driver.state with
  | .off => (ln.powerUp x.cfg).completeUrgent x.line .ok 0 0
  | .failed => (ln.powerUp x.cfg).completeUrgent x.line .ok 0 0
  | .cooldown => (ln.powerUp x.cfg).completeUrgent x.line .ok 0 0
  | .settling => ln.completeUrgent x.line .ok 0 0
  | .up => ln.completeUrgent x.line .ok 0 0
  | .tripped => ln.completeUrgent x.line .ok 0 0

/-- POWER OFF (R34). -/
def Line.powerOff (ln : Line) (x : LineCtx) : Line :=
  if ln.driver.state = .off then ln.completeUrgent x.line .ok 0 0
  else (ln.powerDown x.line).completeUrgent x.line .ok 0 0

/-- The ON half of a POWER CYCLE, once the OFF half's records are placed (R35 steps 2 and 3; log 9). -/
def Line.cycleOn (ln : Line) (x : LineCtx) : Line :=
  ((ln.setCont .boundary).powerUp x.cfg).completeUrgent x.line .ok 0 0

/-- POWER CYCLE (R35): the action OFF, skipped on a line that is OFF, and then the action ON. -/
def Line.powerCycle (ln : Line) (x : LineCtx) : Line :=
  if ln.driver.state = .off then ln.setCont .cycleOn else (ln.powerDown x.line).setCont .cycleOn

end Sys2Proof.Machine
end

