-- ==== Sys2Proof/Machine/Transfers.lean ====
section
/-! DEFINITION. SEND, STORE and FETCH: the steps of the active routine record, what ends them, their host memory accesses
and the closing exchange (chapter 6). -/

namespace Sys2Proof.Machine

/-- The host address `n` bytes into a buffer (R98). -/
def bufferAt (addr : HostAddr) (n : Nat) : HostAddr := addr + BitVec.ofNat 64 n

/-- The payload of a SEND's COMMAND: the record's payload of the record's length (R99). -/
def Request.commandPayload (r : Request) : List Byte := r.payload.take r.length.toNat

/-- A transfer context as set up with a record's first exchange (R96). -/
def Transfer.begin (r : Request) (node : Node) (kind : TransferKind) (next : NextStep) : Transfer :=
  { tag := r.tag, node := node, kind := kind, length := r.length.toNat, hostAddr := r.hostAddr, available := none,
    bytesDone := 0, next := next, held := none, sessionOpen := false, busyCount := 0, deadline := none,
    abortFlag := false }

/-- The length of the segment after bytes done: 32 bytes, or what is left (R102). -/
def Transfer.segmentLength (t : Transfer) : Nat := min Config.segmentBytes (t.length - t.bytesDone)

/-- The frame of a step of the active record, from the entry as it stands (R102, R106, R107, R113). -/
def stepFrame (e : Entry) (t : Transfer) (r : Request) : Frame :=
  match t.next with
  | .command => Frame.build e .command t.node false r.commandPayload
  | .wdata k =>
    if k = 1 then Frame.build e .wdata t.node true (leBytes 2 t.length ++ t.held.getD [])
    else Frame.build e .wdata t.node false (t.held.getD [])
  | .ropen => Frame.build e .ropen t.node false (leBytes 2 t.length)
  | .rdata => Frame.build e .rdata t.node false []
  | .closing _ => Frame.build e .close t.node false [CloseReason.byte .abandoned]

/-- Hand over the next step of the active record, with its context set (R87, R96). -/
def Line.sendStep (ln : Line) (t : Transfer) (r : Request) : Line :=
  (ln.setTransfer t).handOver .step (stepFrame (ln.entry t.node) t r)

/-- Start the host read of the next segment of a STORE (R98, R102). -/
def Line.readSegment (ln : Line) (addr : HostAddr) (length : Nat) : Line := ln.startAccess (.segmentRead addr length)

/-- The closing exchange of the active record (R111): one CLOSE if the entry is PRESENT; the session counts as closed
when it is handed over, whatever its result. A segment that a BUSY_LIMIT leaves held goes at the same moment (DEDUCED, log
29). -/
def Line.runClosing (ln : Line) (l : LineId) (reason : CloseReason) (status : Code) : Line :=
  match ln.engine.transfer with
  | none => ln.setCont .boundary
  | some t =>
    let t' := { t with next := .closing status, sessionOpen := false, held := none, deadline := none }
    if (ln.entry t.node).state = .present then
      (ln.setTransfer t').handOver .closing (Frame.build (ln.entry t.node) .close t.node false [reason.byte])
    else ((ln.setCont .boundary).setTransfer t').completeActive l status 0

/-- A routine record that is not active is taken up after its checks (R77, R87, R102, R106). -/
def Line.beginRoutine (ln : Line) (r : Request) (node : Node) : Line :=
  match requestKind r.kind with
  | some .send => ln.sendStep (Transfer.begin r node .send .command) r
  | some .store =>
    ln.readSegment r.hostAddr (Transfer.begin r node .store (.wdata 1)).segmentLength
  | some .fetch => ln.sendStep (Transfer.begin r node .fetch .ropen) r
  | _ => ln

/-- The active record continues with its recorded next step (R113): a STORE whose next segment is not held reads it
first. -/
def Line.resumeRoutine (ln : Line) (t : Transfer) (r : Request) : Line :=
  match t.kind, t.held with
  | .store, none => ln.readSegment (bufferAt t.hostAddr t.bytesDone) t.segmentLength
  | _, _ => ln.sendStep t r

/-- The read of a STORE segment has ended (R102, R105). With its data the WDATA is handed over, and a first segment's
record becomes active; with a bus error the STORE ends BUS_ERROR, with a CLOSE ABANDONED if its session is open. -/
def Line.segmentRead (ln : Line) (l : LineId) (length : Nat) (data : Option (List Byte)) : Line :=
  match ln.engine.routine with
  | [] => ln.endWork
  | r :: _ =>
    match ln.engine.transfer, data with
    | none, none => ln.endWork.completeRoutine l .busError 0 0
    | none, some d =>
      match nodeOf r.node with
      | none => ln.endWork
      | some n =>
        ln.endWork.sendStep { Transfer.begin r n .store (.wdata 1) with held := some (exactly length d) } r
    | some t, none =>
      if t.sessionOpen then ln.endWork.setCont (.closing .abandoned .busError)
      else ln.endWork.completeActive l .busError 0
    | some t, some d => ln.endWork.sendStep { t with held := some (exactly length d) } r

/-- A NAK_BUSY to a step of the active record (R83, R110): busy backoff, or BUSY_LIMIT, with the closing exchange where a
session is open. -/
def Line.stepBusy (ln : Line) (x : LineCtx) (t : Transfer) : Line :=
  let t' := { t with busyCount := busyNext t.busyCount }
  if busyOver x.cfg t'.busyCount then
    if t.sessionOpen then (ln.setTransfer t').setCont (.closing .abandoned .busyLimit)
    else (ln.setTransfer t').completeActive x.line .busyLimit 0
  else ln.setTransfer { t' with deadline := startMs x.cfg.busyBackoff }

/-- The COMMAND of a routine SEND ended VALID with an ACK (R100). -/
def Line.commandAck (ln : Line) (l : LineId) (t : Transfer) (r : Reply) : Line :=
  if t.hostAddr = 0#64 ∨ r.payload = [] then ln.completeRoutine l .ok r.payload.length 0
  else ln.setCont (.access (.responseWrite .routine t.hostAddr r.payload))

/-- A WDATA ended VALID with an ACK (R103). -/
def Line.wdataAck (ln : Line) (l : LineId) (t : Transfer) (k : Nat) : Line :=
  let done := t.bytesDone + (t.held.getD []).length
  let t' := { t with bytesDone := done, held := none, busyCount := 0, sessionOpen := true, next := .wdata (k + 1) }
  if t.length ≤ done then (ln.setTransfer { t' with sessionOpen := false }).completeActive l .ok 0
  else ln.setTransfer t'

/-- An ROPEN ended VALID with an ACK that gives the available length (R106). -/
def Line.ropenAck (ln : Line) (t : Transfer) (available : Nat) : Line :=
  let t' := { t with available := some available, sessionOpen := true, busyCount := 0, next := .rdata }
  if available = 0 then (ln.setTransfer t').setCont (.closing .done .ok) else ln.setTransfer t'

/-- The judgement of an accepted FETCH segment against the bytes still owed (R107, R108): how many of its bytes are
written, and what follows the write. -/
def fetchFit (owed n : Nat) (last : Bool) : Nat × FetchAfter :=
  if last then
    if n = owed then (n, .last) else (min n owed, .mismatchEnded)
  else if n = 32 ∧ 32 < owed then (n, .more)
  else (min n owed, .mismatchOpen)

/-- An RDATA ended VALID with an ACK: its segment, as judged, is written to the host buffer (R107, R108). -/
def Line.rdataAck (ln : Line) (t : Transfer) (r : Reply) : Line :=
  let fit := fetchFit (t.available.getD 0 - t.bytesDone) r.payload.length r.last
  ln.setCont (.access (.fetchWrite (bufferAt t.hostAddr t.bytesDone) (r.payload.take fit.1) fit.2))

/-- The end of a step of the active record (R99, R103, R104, R106, R107, R109). -/
def Line.stepEnd (ln : Line) (x : LineCtx) (res : ExchangeResult) : Line :=
  match ln.engine.transfer with
  | none => ln
  | some t =>
    match res.reply with
    | none => ln.completeActive x.line res.cause.code 0
    | some r =>
      match r.kind with
      | .nakBusy => ln.stepBusy x t
      | .nakRefused => (ln.setTransfer { t with sessionOpen := false }).completeActive x.line .refused 0
      | .ack =>
        match t.next with
        | .command => ln.commandAck x.line t r
        | .wdata k => ln.wdataAck x.line t k
        | .ropen => ln.ropenAck t (leNat r.payload)
        | .rdata => ln.rdataAck t r
        | .closing status => ln.completeActive x.line status 0

/-- The end of the closing exchange: the RESULT decided before it is produced, whatever the CLOSE's result (R112). -/
def Line.closingEnd (ln : Line) (l : LineId) : Line :=
  match ln.engine.transfer with
  | some { next := .closing status, .. } => ln.completeActive l status 0
  | _ => ln

/-- The write of a SEND response has ended: OK with the response's length, or BUS_ERROR with count 0 (R100). -/
def Line.responseWritten (ln : Line) (l : LineId) (side : QueueSide) (length : Nat) (good : Bool) : Line :=
  let code : Code := if good then .ok else .busError
  let count := if good then length else 0
  match side with
  | .urgent => ln.endWork.completeUrgent l code count 0
  | .routine => ln.endWork.completeRoutine l code count 0

/-- The write of an accepted FETCH segment has ended (R107, R108, R109). -/
def Line.fetchWritten (ln : Line) (l : LineId) (length : Nat) (after : FetchAfter) (good : Bool) : Line :=
  match ln.engine.transfer with
  | none => ln.endWork
  | some t =>
    let t' := if good then { t with bytesDone := t.bytesDone + length, busyCount := 0 } else t
    let ln := ln.endWork.setTransfer t'
    match after with
    | .more => if good then ln else ln.setCont (.closing .abandoned .busError)
    | .last => (ln.setTransfer { t' with sessionOpen := false }).completeActive l (if good then .ok else .busError) 0
    | .mismatchOpen => ln.setCont (.closing .abandoned (if good then .garbled else .busError))
    | .mismatchEnded =>
      (ln.setTransfer { t' with sessionOpen := false }).completeActive l (if good then .garbled else .busError) 0

end Sys2Proof.Machine
end

