-- ==== Sys2Proof/Machine/Collections.lean ====
section
/-! DEFINITION. Rounds and collections: the list of a round, its turns, its end, and the taking of an offer into a supply
buffer (chapters 4 and 8). -/

namespace Sys2Proof.Machine

/-! ## Rounds -/

/-- The node addresses of a line in ascending order. -/
def allNodes : List Node := List.finRange 12

/-- Whether the probe mask holds the address of a node: bit a for address a (11 section 11.4). -/
def LineConfig.mayProbe (cfg : LineConfig) (n : Node) : Bool := cfg.probeMask.getLsbD (Node.address n)

/-- Whether an ordinary or slow round polls an entry of this state when its list is fixed (R63). -/
def polledIn (kind : RoundKind) (s : EntryState) : Bool :=
  match s with
  | .present => true
  | .silent => kind == .slow
  | _ => false

/-- The twelve addresses from the one after the cursor round to the cursor's own (R64). -/
def afterCursor (cursor : Node) : List Node :=
  (List.range 12).map (fun i => ⟨(cursor.val + 1 + i) % 12, Nat.mod_lt _ (by omega)⟩)

/-- The address chosen for the probe slot, if one qualifies: VACANT and in the probe mask (R64). -/
def Line.probeSlot (ln : Line) (cfg : LineConfig) : Option Node :=
  (afterCursor ln.rounds.cursor).find? (fun n => (ln.entry n).state == .vacant && cfg.mayProbe n)

/-- The list of a discovery round (R65). -/
def Line.discoveryTurns (ln : Line) (cfg : LineConfig) : List Turn :=
  (allNodes.filter (fun n => cfg.mayProbe n && (ln.entry n).state != .barred)).map Turn.identify

/-- The poll turns of an ordinary or slow round (R63). -/
def Line.pollTurns (ln : Line) (kind : RoundKind) : List Turn :=
  (allNodes.filter (fun n => polledIn kind (ln.entry n).state)).map Turn.poll

/-- The kind of the round that begins (R62). -/
def Rounds.nextKind (r : Rounds) : RoundKind :=
  if r.discovery then .discovery else if r.number.toNat % 8 = 0 then .slow else .ordinary

/-- A round begins: the pending-round mark is cleared, the kind decided, the list fixed and the position set to the first
turn (R62, R63, R64, R65). -/
def Line.beginRound (ln : Line) (cfg : LineConfig) : Line :=
  match ln.rounds.nextKind with
  | .discovery =>
    { ln with rounds := { ln.rounds with
        pending := false, discovery := false,
        round := some { kind := .discovery, turns := ln.discoveryTurns cfg, position := 0 } } }
  | kind =>
    let probe := ln.probeSlot cfg
    { ln with rounds := { ln.rounds with
        pending := false,
        cursor := probe.getD ln.rounds.cursor,
        round := some { kind := kind, turns := ln.pollTurns kind ++ (probe.toList.map Turn.probe), position := 0 } } }

/-- The driver takes note of a round's end: rounds-since-UP rises to 16 and stays there; on reaching 16 the restart budget
is reloaded (R32). -/
def Driver.roundEnded (d : Driver) (cfg : LineConfig) : Driver :=
  if d.roundsSinceUp < Config.reloadRounds then
    if d.roundsSinceUp + 1 = Config.reloadRounds then
      { d with roundsSinceUp := d.roundsSinceUp + 1, restartsLeft := cfg.restartBudget }
    else { d with roundsSinceUp := d.roundsSinceUp + 1 }
  else d

/-- The round ends (R72). -/
def Line.endRound (ln : Line) (cfg : LineConfig) : Line :=
  { ln with
    rounds := { ln.rounds with round := none, number := ln.rounds.number + 1 },
    driver := ln.driver.roundEnded cfg }

/-- The position moves to the given turn; past the last one the round ends (R66, R72). -/
def Line.moveTo (ln : Line) (cfg : LineConfig) (r : Round) (position : Nat) : Line :=
  if position < r.turns.length then
    { ln with rounds := { ln.rounds with round := some { r with position := position } } }
  else ln.endRound cfg

/-- The turn is over and its consequences are placed: a rejoin pending for it is made absent and the position moves on
(R66, R67, R69, R72, R73). A round abandoned meanwhile stays absent (R27). -/
def Line.advance (ln : Line) (cfg : LineConfig) : Line :=
  match ln.rounds.round with
  | none => ln
  | some r => ({ ln with rounds := { ln.rounds with rejoin := none } }).moveTo cfg r (r.position + 1)

/-- The node of a turn. -/
def Turn.node : Turn → Node
  | .poll n => n
  | .identify n => n
  | .probe n => n

/-- Whether a turn sends its frame, by the entry's state at the turn; otherwise it is passed over (R65, R66, R70). -/
def Line.turnSends (ln : Line) (kind : RoundKind) (t : Turn) : Bool :=
  match t with
  | .poll n => polledIn kind (ln.entry n).state
  | .identify n => (ln.entry n).state == .vacant
  | .probe n => (ln.entry n).state == .vacant

/-- A turn's frame is handed over: POLL, or IDENTIFY (R66, R70). -/
def Line.sendTurn (ln : Line) (t : Turn) : Line :=
  match t with
  | .poll n => ln.handOver .poll (Frame.build (ln.entry n) .poll n false [])
  | .identify n => ln.handOver .identifyTurn (Frame.build (ln.entry n) .identify n false [])
  | .probe n => ln.handOver .identifyTurn (Frame.build (ln.entry n) .identify n false [])

/-- The turns from the round's position: those that send nothing are passed over in the same unit, up to the first turn
that sends a frame or the end of the list, where the round ends (R66, R72, R77). -/
def Line.takeTurns (ln : Line) (cfg : LineConfig) (r : Round) : Line :=
  let ahead := r.turns.drop r.position
  let passed := (ahead.takeWhile (fun t => !ln.turnSends r.kind t)).length
  match ahead.drop passed with
  | [] => ln.endRound cfg
  | t :: _ => (ln.moveTo cfg r (r.position + passed)).sendTurn t

/-! ## Collections -/

/-- The ARRIVAL of the collection is produced and the collection ends; the round then goes on at its next turn (R67, R133
to R136). -/
def Line.endCollection (ln : Line) (l : LineId) (code : Code) : Line :=
  (ln.returnCollection l code).setCont .advance

/-- The next COLLECT of the collection, FIRST set on the first one (R131, R132). -/
def Line.sendCollect (ln : Line) (k : Collection) : Line :=
  ({ ln with engine := { ln.engine with collection := some { k with firstSent := true } } }).handOver .collect
    (Frame.build (ln.entry k.node) .collect k.node (!k.firstSent) [])

/-- The CLOSE COLLECTED of the collection (R135). -/
def Line.sendCollected (ln : Line) (k : Collection) : Line :=
  ({ ln with engine := { ln.engine with collection := some { k with next := .close } } }).handOver .closeCollected
    (Frame.build (ln.entry k.node) .close k.node false [CloseReason.byte .collected])

/-- The collection context without a buffer is made absent and the position moves on: dropped or deferred (R131). -/
def Line.dropCollection (ln : Line) (cfg : LineConfig) : Line :=
  ({ ln with engine := { ln.engine with collection := none } }).advance cfg

/-- The first unit of a collection: dropped if the node is no longer PRESENT with an offer, deferred if the cache refuses,
otherwise granted the oldest record and begun with its first COLLECT (R128, R131). -/
def Line.beginCollection (ln : Line) (x : LineCtx) (k : Collection) (cache : List SupplyRecord) :
    Line × List SupplyRecord :=
  if (ln.entry k.node).state = .present ∧ (ln.entry k.node).offerLength.isSome then
    match cache with
    | [] => (ln.dropCollection x.cfg, [])
    | b :: rest => (ln.sendCollect { k with buffer := some b }, rest)
  else (ln.dropCollection x.cfg, cache)

/-- The next unit of a collection that holds its buffer (R136). -/
def Line.resumeCollection (ln : Line) (x : LineCtx) (k : Collection) : Line :=
  if (ln.entry k.node).state = .present then
    match k.next with
    | .collect => ln.sendCollect k
    | .close => ln.sendCollected k
  else ln.endCollection x.line .noNode

/-- The judgement of an accepted segment of a collection against the bytes still owed (R132, R133): how many of its bytes
are written, and what follows the write. -/
def collectFit (owed n : Nat) (last : Bool) : Nat × CollectAfter :=
  if last then
    if n = owed then (n, .last) else (min n owed, .mismatch)
  else if n = 32 ∧ 32 < owed then (n, .more)
  else (min n owed, .mismatch)

/-- The end of a COLLECT exchange (R132, R133, R134). -/
def Line.collectEnd (ln : Line) (x : LineCtx) (res : ExchangeResult) : Line :=
  match ln.engine.collection with
  | none => ln
  | some k =>
    match res.reply with
    | none => ln.endCollection x.line res.cause.code
    | some r =>
      match r.kind with
      | .nakBusy => ln.endCollection x.line .busyLimit
      | .nakRefused => ln.endCollection x.line .refused
      | .ack =>
        match k.buffer with
        | none => ln
        | some b =>
          let fit := collectFit (k.offerLength - k.bytesWritten) r.payload.length r.last
          ln.setCont (.access (.collectWrite (bufferAt b.addr k.bytesWritten) (r.payload.take fit.1) fit.2))

/-- The write of an accepted segment of a collection has ended (R132, R133, R134): the next COLLECT follows at a boundary,
the CLOSE COLLECTED in the same unit, or the collection ends. -/
def Line.collectWritten (ln : Line) (l : LineId) (length : Nat) (after : CollectAfter) (good : Bool) : Line :=
  match ln.engine.collection with
  | none => ln.endWork
  | some k =>
    if good then
      let k' := { k with bytesWritten := k.bytesWritten + length }
      let ln := { ln.endWork with engine := { ln.endWork.engine with collection := some k' } }
      match after with
      | .more => ln
      | .last => if (ln.entry k.node).state = .present then ln.sendCollected k' else ln.endCollection l .noNode
      | .mismatch => ln.endCollection l .garbled
    else ln.endWork.endCollection l .busError

/-- The end of the CLOSE COLLECTED: the entry's offer length is absent, and the ARRIVAL is OK or UNCONFIRMED (R135). -/
def Line.closeCollectedEnd (ln : Line) (x : LineCtx) (res : ExchangeResult) : Line :=
  match ln.engine.collection with
  | none => ln
  | some k =>
    (ln.setEntry k.node { ln.entry k.node with offerLength := none }).endCollection x.line
      (if res.reply.isSome then .ok else .unconfirmed)

/-! ## Poll-class work -/

/-- The end of a POLL (R67, R68, R69). `before` is the entry's state when the POLL was sent. An offer of a PRESENT node
sets up a collection; a valid slow poll makes a rejoin IDENTIFY pending; otherwise the turn is over. -/
def Line.pollEnd (ln : Line) (before : EntryState) (n : Node) (res : ExchangeResult) : Line :=
  match res.reply with
  | none => ln.setCont .advance
  | some r =>
    match before with
    | .silent => { ln with rounds := { ln.rounds with rejoin := some n } }
    | _ =>
      if r.kind = .ack ∧ 0 < leNat r.payload ∧ (ln.entry n).state = .present then
        { ln with engine := { ln.engine with
            collection := some { node := n, offerLength := leNat r.payload, buffer := none, bytesWritten := 0,
                                 firstSent := false, next := .collect } } }
      else ln.setCont .advance

/-- The rejoin IDENTIFY that is pending is sent if the entry is still SILENT with rejoin check 1; otherwise the round goes
on without a frame (R48, R69). -/
def Line.takeRejoin (ln : Line) (cfg : LineConfig) (n : Node) : Line :=
  if (ln.entry n).state = .silent ∧ (ln.entry n).rejoinCheck = true then
    ln.handOver .rejoin (Frame.build (ln.entry n) .identify n false [])
  else ln.advance cfg

/-- One unit of poll-class work (R77): a round begins, or its next owed work is taken: the collection, the rejoin
IDENTIFY, the turn at the position. -/
def Line.pollUnit (ln : Line) (x : LineCtx) (cache : List SupplyRecord) : Line × List SupplyRecord :=
  match ln.rounds.round with
  | none =>
    let ln := ln.beginRound x.cfg
    match ln.rounds.round with
    | none => (ln, cache)
    | some r => (ln.takeTurns x.cfg r, cache)
  | some r =>
    match ln.engine.collection with
    | some k =>
      match k.buffer with
      | none => ln.beginCollection x k cache
      | some _ => (ln.resumeCollection x k, cache)
    | none =>
      match ln.rounds.rejoin with
      | some n => (ln.takeRejoin x.cfg n, cache)
      | none => (ln.takeTurns x.cfg r, cache)

end Sys2Proof.Machine
end

