-- ==== Sys2Proof/Machine/Engine.lean ====
section
/-! DEFINITION. The Line Engine: the checks at selection, the urgent requests, ABORT, selection, the STOP cancellation, the
boundary, and the end of an exchange (chapters 5 and 7, sections 3.7, 3.8 and 10.5). -/

namespace Sys2Proof.Machine

/-! ## Checks at selection -/

/-- Whether the kind needs the line UP (R36, R89). -/
def needsUp : RequestKind → Bool
  | .send => true
  | .store => true
  | .fetch => true
  | .probe => true
  | _ => false

/-- The check of a SEND, STORE or FETCH against its node's entry (R91). -/
def entryCheck (e : EntryState) : Option Code :=
  match e with
  | .present => none
  | .barred => some .nodeBarred
  | .vacant => some .noNode
  | .silent => some .noNode
  | .conflict => some .noNode

/-- The checks of a record first selected at the head of its queue, in order; the status of the first that fails (R89,
R90, R91). -/
def Line.checkRecord (ln : Line) (side : QueueSide) (r : Request) : Option Code :=
  if r.badRequest side then some .badRequest
  else if r.badNode then some .badNode
  else
    match requestKind r.kind with
    | none => some .badRequest
    | some k =>
      if needsUp k ∧ ln.driver.state ≠ .up then some .lineDown
      else
        match k, nodeOf r.node with
        | .send, some n => entryCheck (ln.entry n).state
        | .store, some n => entryCheck (ln.entry n).state
        | .fetch, some n => entryCheck (ln.entry n).state
        | _, _ => none

/-- The check before the next exchange of an active record, or of an urgent SEND back from backoff (R82, R101). -/
def Line.continueCheck (ln : Line) (n : Node) : Option Code :=
  if ln.driver.state ≠ .up then some .lineDown
  else if (ln.entry n).state = .present then none
  else some .noNode

/-! ## Urgent requests -/

/-- BAR (R52, R53): the entry becomes BARRED; the active record and the collection of the barred node end
NODE_BARRED; then the BAR completes OK. Where a collection ended, the round goes on with its next turn. -/
def Line.bar (ln : Line) (l : LineId) (n : Node) : Line :=
  let barred := ln.setEntry n (ln.entry n).bar
  let ended :=
    match barred.engine.transfer with
    | some t => if t.node = n then barred.completeActive l .nodeBarred 0 else barred
    | none => barred
  match ended.engine.collection with
  | some { node := m, buffer := some _, .. } =>
    if m = n then ((ended.returnCollection l .nodeBarred).setCont .advance).completeUrgent l .ok 0 0
    else ended.completeUrgent l .ok 0 0
  | _ => ended.completeUrgent l .ok 0 0

/-- UNBAR (R54). -/
def Line.unbar (ln : Line) (l : LineId) (n : Node) : Line :=
  (ln.setEntry n (ln.entry n).unbar).completeUrgent l .ok 0 0

/-- PROBE on a line that is UP (R55): no exchange to a BARRED entry, otherwise one IDENTIFY. -/
def Line.probe (ln : Line) (l : LineId) (n : Node) : Line :=
  if (ln.entry n).state = .barred then ln.completeUrgent l .nodeBarred 0 0
  else ln.handOver .urgentProbe (Frame.build (ln.entry n) .identify n false [])

/-- The COMMAND of an urgent SEND (R99). -/
def Line.sendUrgent (ln : Line) (r : Request) (n : Node) : Line :=
  ln.handOver .urgentSend (Frame.build (ln.entry n) .command n false r.commandPayload)

/-- The two RESULTs of an ABORT that found the active record: the record ABORTED with its count, then the ABORT OK (R119,
R120, R122). -/
def Line.abortActive (ln : Line) (l : LineId) (a : Request) : Line :=
  (ln.completeActive l .aborted (tagDetail a.tag)).completeUrgent l .ok 0 (tagDetail a.targetTag)

/-- An ABORT that matched the active record (R119, R120). At the CLOSE the context's next step stays the one that was to be
tried (DEDUCED, log 31). -/
def Line.abortStop (ln : Line) (l : LineId) (a : Request) (t : Transfer) : Line :=
  if t.sessionOpen ∧ (ln.entry t.node).state = .present then
    (ln.setTransfer { t with abortFlag := true, sessionOpen := false, deadline := none, held := none }).handOver
      .abortClose (Frame.build (ln.entry t.node) .close t.node false [CloseReason.byte .abandoned])
  else ln.abortActive l a

/-- The waiting routine records an ABORT searches: those behind the head when the head is active, otherwise all (R117). -/
def Line.waiting (ln : Line) : List Request :=
  if ln.engine.transfer.isSome then ln.engine.routine.tail else ln.engine.routine

/-- An ABORT removes a matched waiting record (R118), or answers NOT_FOUND (R123). -/
def Line.abortWaiting (ln : Line) (l : LineId) (a : Request) : Line :=
  match ln.waiting.find? (fun r => r.tag == a.targetTag) with
  | none => ln.completeUrgent l .notFound 0 (tagDetail a.targetTag)
  | some r =>
    let kept := ln.waiting.eraseP (fun r => r.tag == a.targetTag)
    let routine := if ln.engine.transfer.isSome then ln.engine.routine.take 1 ++ kept else kept
    (({ ln with engine := { ln.engine with routine := routine } }).produce
      (resultRecord l r .aborted 0 (tagDetail a.tag))).completeUrgent l .ok 0 (tagDetail a.targetTag)

/-- ABORT (R116, R117): the active record is searched first, then the waiting ones, oldest first. -/
def Line.abort (ln : Line) (l : LineId) (a : Request) : Line :=
  match ln.engine.transfer with
  | some t => if t.tag = a.targetTag then ln.abortStop l a t else ln.abortWaiting l a
  | none => ln.abortWaiting l a

/-- A checked urgent record acts by its kind (R88). -/
def Line.urgentAct (ln : Line) (x : LineCtx) (r : Request) : Line :=
  match requestKind r.kind with
  | some .abort => ln.abort x.line r
  | some .power =>
    match powerAction r.action with
    | some .on => ln.powerOn x
    | some .off => ln.powerOff x
    | some .cycle => ln.powerCycle x
    | none => ln.completeUrgent x.line .badRequest 0 0
  | some k =>
    match k, nodeOf r.node with
    | .send, some n => ln.sendUrgent r n
    | .probe, some n => ln.probe x.line n
    | .bar, some n => ln.bar x.line n
    | .unbar, some n => ln.unbar x.line n
    | _, none => ln.completeUrgent x.line .badNode 0 0
    | _, some _ => ln.completeUrgent x.line .badRequest 0 0
  | none => ln.completeUrgent x.line .badRequest 0 0

/-- The urgent unit (R88): a SEND back from backoff meets the check of R82, every other head the checks at selection. -/
def Line.urgentUnit (ln : Line) (x : LineCtx) (r : Request) : Line :=
  if 0 < ln.engine.urgentBusy then
    match nodeOf r.node with
    | none => ln.completeUrgent x.line .badNode 0 0
    | some n =>
      match ln.continueCheck n with
      | some code => ln.completeUrgent x.line code 0 0
      | none => ln.sendUrgent r n
  else
    match ln.checkRecord .urgent r with
    | some code => ln.completeUrgent x.line code 0 r.resultDetail
    | none => ln.urgentAct x r

/-- The routine unit (R77, R82, R89): the active record continues, or the head meets its checks and is taken up. -/
def Line.routineUnit (ln : Line) (x : LineCtx) (r : Request) : Line :=
  match ln.engine.transfer with
  | some t =>
    match ln.continueCheck t.node with
    | some code => ln.completeActive x.line code 0
    | none => ln.resumeRoutine t r
  | none =>
    match ln.checkRecord .routine r with
    | some code => ln.completeRoutine x.line code 0 r.resultDetail
    | none =>
      match nodeOf r.node with
      | some n => ln.beginRoutine r n
      | none => ln.completeRoutine x.line .badNode 0 0

/-! ## Selection -/

/-- The three classes of line work (R77). -/
inductive WorkClass where
  | urgent | poll | routine
  deriving DecidableEq, Repr

/-- The head of the urgent queue, unless it waits out a busy backoff (R77, R78). -/
def Line.urgentHead (ln : Line) : Option Request :=
  if ln.engine.urgentDeadline.isSome then none else ln.engine.urgent.head?

/-- The head of the routine queue, unless it is active and waits out a busy backoff (R77, R78). -/
def Line.routineHead (ln : Line) : Option Request :=
  match ln.engine.transfer with
  | some t => if t.deadline.isSome then none else ln.engine.routine.head?
  | none => ln.engine.routine.head?

/-- Whether the poll class has work (R61, R77). -/
def Line.pollReady (ln : Line) : Bool :=
  ln.driver.state == .up && (ln.rounds.round.isSome || ln.rounds.pending)

/-- The class selected at a boundary, if any qualifies (R77). -/
def Line.selectClass (ln : Line) : Option WorkClass :=
  if ln.urgentHead.isSome then some .urgent
  else if ln.pollReady then some .poll
  else if ln.routineHead.isSome then some .routine
  else none

/-- Selection (R77): the first class that qualifies is given one unit of work; none when no class qualifies. -/
def Line.select (ln : Line) (x : LineCtx) (cache : List SupplyRecord) : Option (Line × List SupplyRecord) :=
  match ln.selectClass with
  | some .urgent => ln.urgentHead.map (fun r => (ln.urgentUnit x r, cache))
  | some .poll => some (ln.pollUnit x cache)
  | some .routine => ln.routineHead.map (fun r => (ln.routineUnit x r, cache))
  | none => none

/-! ## STOP cancellation -/

/-- Steps 1 to 4 of the STOP cancellation (R165): the active record, the urgent queue, the routine queue, the collection's
buffer, all CANCELLED. -/
def Line.cancel (ln : Line) (l : LineId) : Line :=
  let ln := ln.completeActive l .cancelled 0
  let records := ln.engine.urgent ++ ln.engine.routine
  let ln := { ln with engine := { ln.engine with
      urgent := [], routine := [], urgentBusy := 0, urgentDeadline := none, cutOff := false } }
  ((ln.produceAll (records.map (fun r => resultRecord l r .cancelled 0 r.resultDetail))).returnCollection l .cancelled).setCont
    .stopLineOff

/-- Step 5 of the STOP cancellation on a line whose driver is not OFF (R165): the supply is removed and LINE_OFF posted. -/
def Line.cancelLineOff (ln : Line) (l : LineId) : Line :=
  (ln.turnOff.produceWith (lineEvent l .lineOff 0) .clearEntries).setCont .stopDone

/-! ## Boundary -/

/-- What an engine sees of the rest of the part at a boundary: the device state, and whether a fetch for one of its queues
is in progress (R76, R164). -/
structure EngineEnv where
  device : DeviceState
  fetching : Bool
  deriving DecidableEq, Repr

/-- What an engine with nothing owed does next (R76, R95): the rest of its unit, then the boundary's first applicable step:
LINE_UP, a waiting trip, the STOP cancellation, selection. None when it waits. Posting LINE_UP, trip processing and the
cancellation's LINE_OFF wait for the empty slot (R25, R28, log 8). A LINE_UP that came to be owed while the engine was
BLOCKED in its cancellation follows the records of steps 1 to 4 (R94) and comes before the LINE_OFF of step 5, which is the
model's reading (log 27). -/
def Line.proceed (ln : Line) (x : LineCtx) (env : EngineEnv) (cache : List SupplyRecord) :
    Option (Line × List SupplyRecord) :=
  match ln.engine.cont with
  | .access a => some (ln.startAccess a, cache)
  | .closing reason status => some (ln.runClosing x.line reason status, cache)
  | .advance => some ((ln.setCont .boundary).advance x.cfg, cache)
  | .tripBudget => some (ln.tripBudget x, cache)
  | .cycleOn => some (ln.cycleOn x, cache)
  | .stopLineOff =>
    if ln.engine.lineUpOwed then
      if ln.engine.slot.isSome then none else some (ln.postLineUp x.line, cache)
    else if ln.driver.state = .off then some (ln.setCont .stopDone, cache)
    else if ln.engine.slot.isSome then none
    else some (ln.cancelLineOff x.line, cache)
  | .stopDone => some ({ ln with engine := { ln.engine with state := .inactive, cont := .boundary } }, cache)
  | .boundary =>
    if ln.engine.lineUpOwed then
      if ln.engine.slot.isSome then none else some (ln.postLineUp x.line, cache)
    else if ln.engine.tripPending then
      if ln.engine.slot.isSome then none else some (ln.processTrip x.line, cache)
    else
      match env.device with
      | .running => ln.select x cache
      | .stopping => if env.fetching then none else some (ln.cancel x.line, cache)
      | _ => none

/-- One move of a Line Engine that has no exchange on the wire and no access in flight: place an owed record, or proceed.
None when it can do nothing (R75, R76, R93 to R95). -/
def Line.engineStep (ln : Line) (x : LineCtx) (env : EngineEnv) (cache : List SupplyRecord) :
    Option (Line × List SupplyRecord) :=
  if ln.engine.state = .idle ∨ ln.engine.state = .blocked then
    match ln.engine.owed with
    | o :: rest => if ln.engine.slot.isSome then none else some (ln.place o rest, cache)
    | [] => ln.proceed x env cache
  else none

/-- Whether an engine that waits has a record to place and a full slot (R75 BLOCKED, R94): an owed record, an owed
LINE_UP, a trip to process, or the cancellation's LINE_OFF. -/
def Line.mustPost (ln : Line) : Bool :=
  ln.engine.slot.isSome &&
    (!ln.engine.owed.isEmpty || ln.engine.cont == .stopLineOff ||
      (ln.engine.cont == .boundary && (ln.engine.lineUpOwed || ln.engine.tripPending)))

/-- The state an engine that waits shows: BLOCKED when it must post into a full slot, else IDLE (R75). -/
def Line.relabel (ln : Line) : Line :=
  if ln.engine.state = .idle ∨ ln.engine.state = .blocked then
    { ln with engine := { ln.engine with state := if ln.mustPost then .blocked else .idle } }
  else ln

/-! ## The end of an exchange -/

/-- The end of an urgent SEND's COMMAND (R83, R99, R100). -/
def Line.urgentSendEnd (ln : Line) (x : LineCtx) (res : ExchangeResult) : Line :=
  match ln.engine.urgent with
  | [] => ln
  | u :: _ =>
    match res.reply with
    | none => ln.completeUrgent x.line res.cause.code 0 0
    | some r =>
      match r.kind with
      | .ack =>
        if u.hostAddr = 0#64 ∨ r.payload = [] then ln.completeUrgent x.line .ok r.payload.length 0
        else ln.setCont (.access (.responseWrite .urgent u.hostAddr r.payload))
      | .nakBusy =>
        let count := busyNext ln.engine.urgentBusy
        if busyOver x.cfg count then ln.completeUrgent x.line .busyLimit 0 0
        else { ln with engine := { ln.engine with
            urgentBusy := count, urgentDeadline := startMs x.cfg.busyBackoff } }
      | .nakRefused => ln.completeUrgent x.line .refused 0 0

/-- The end of a PROBE's IDENTIFY (R55 to R58). -/
def Line.probeEnd (ln : Line) (l : LineId) (res : ExchangeResult) : Line :=
  match res.reply with
  | some _ => ln.completeUrgent l .ok 0 0
  | none => ln.completeUrgent l res.cause.code 0 0

/-- The end of an ABORT's CLOSE ABANDONED: the target ABORTED, then the ABORT OK, whatever the CLOSE's result (R121). -/
def Line.abortCloseEnd (ln : Line) (l : LineId) : Line :=
  match ln.engine.urgent with
  | [] => ln
  | a :: _ => ln.abortActive l a

/-- Step 4 of R41: the consequence for the work the exchange belonged to. -/
def Line.workEnd (ln : Line) (x : LineCtx) (p : Purpose) (before : EntryState) (n : Node) (res : ExchangeResult) :
    Line :=
  match p with
  | .urgentSend => ln.urgentSendEnd x res
  | .urgentProbe => ln.probeEnd x.line res
  | .abortClose => ln.abortCloseEnd x.line
  | .poll => ln.pollEnd before n res
  | .identifyTurn => ln.setCont .advance
  | .rejoin => ln.setCont .advance
  | .collect => ln.collectEnd x res
  | .closeCollected => ln.closeCollectedEnd x res
  | .step => ln.stepEnd x res
  | .closing => ln.closingEnd x.line

/-- The node events of an entry's change as completion records (R40). -/
def eventRecords (l : LineId) (n : Node) (evs : List EntryEvent) : List Completion :=
  evs.map (fun e => nodeEvent l n e.code e.count e.detail)

/-- An exchange ends VALID or FAILED and its result is applied in the order of R41; the Transceiver is IDLE (R11). A result
with cause TRIP changes no entry and completes no work: the trip processing settles it (R26, R45). -/
def Line.exchangeEnd (ln : Line) (x : LineCtx) (res : ExchangeResult) : Line :=
  let ended := { ln.endWork with xcvr := Transceiver.initial }
  match ln.engine.purpose, ln.xcvr.frame with
  | some p, some f =>
    if res.tripped then ln.exchangeTripped p
    else
      let after := (ln.entry f.node).afterExchange x.cfg f.kind res
      (((ended.setEntry f.node after.1).produceAll (eventRecords x.line f.node after.2))).workEnd x p
        (ln.entry f.node).state f.node res
  | _, _ => ended

end Sys2Proof.Machine
end

