-- ==== Sys2Proof/Machine/Fetcher.lean ====
section
/-! DEFINITION. The Ring Fetcher and the Buffer Cache: posts, the choice of a ring, the ends of a fetch, ring faults, the
check and return of supply records (chapter 9 sections 9.2 to 9.4, chapter 8 sections 8.1 and 8.4). -/

namespace Sys2Proof.Machine

/-! ## Destinations -/

/-- The line of a request ring and whether it feeds the urgent or the routine queue; none for the supply ring (R140). -/
def ringTarget (r : RingId) : Option (LineId × QueueSide) :=
  if h : r.val < 4 then some (⟨r.val, h⟩, .urgent)
  else if h : r.val < 8 then some (⟨r.val - 4, by omega⟩, .routine)
  else none

/-- The supply ring's number (R140). -/
def supplyRing : RingId := 8

/-- Records and reserved places of a queue (R86). -/
def Engine.places (g : Engine) : QueueSide → Nat
  | .urgent => g.urgent.length + g.urgentReserved
  | .routine => g.routine.length + g.routineReserved

/-- The engine with the reserved places of a queue changed (R86). -/
def Engine.setReserved (g : Engine) (side : QueueSide) (n : Nat) : Engine :=
  match side with
  | .urgent => { g with urgentReserved := n }
  | .routine => { g with routineReserved := n }

/-- Reserved places of a queue. -/
def Engine.reserved (g : Engine) : QueueSide → Nat
  | .urgent => g.urgentReserved
  | .routine => g.routineReserved

/-- Whether the ring's destination has room (R86, R126, R143). -/
def State.hasRoom (s : State) (r : RingId) : Bool :=
  match ringTarget r with
  | some (l, side) => (s.line l).engine.places side < Config.queueDepth
  | none => s.cache.length + s.cacheReserved < Config.cacheDepth

/-- Reserve one more place in the ring's destination (R143). -/
def State.reserve (s : State) (r : RingId) : State :=
  match ringTarget r with
  | some (l, side) =>
    let ln := s.line l
    s.setLine l { ln with engine := ln.engine.setReserved side (ln.engine.reserved side + 1) }
  | none => { s with cacheReserved := s.cacheReserved + 1 }

/-- Release one reserved place of the ring's destination (R146). -/
def State.release (s : State) (r : RingId) : State :=
  match ringTarget r with
  | some (l, side) =>
    let ln := s.line l
    s.setLine l { ln with engine := ln.engine.setReserved side (ln.engine.reserved side - 1) }
  | none => { s with cacheReserved := s.cacheReserved - 1 }

/-! ## Indices -/

/-- An index advanced by one, from size − 1 back to 0 (R144). -/
def nextIndex (size i : Nat) : Nat := if i + 1 < size then i + 1 else 0

/-- Whether a read of the ring is in flight (R141). -/
def State.reading (s : State) (r : RingId) : Bool := s.fetcher.fetch == some { ring := r, phase := .read }

/-- The taken index of a ring (R141). -/
def State.taken (s : State) (r : RingId) : Nat :=
  if s.reading r then nextIndex (s.ringSize r) (s.ring r).consumer else (s.ring r).consumer

/-- The records outstanding up to a tail: (tail − taken index) modulo the size (R141). -/
def State.outstandingTo (s : State) (r : RingId) (tail : Nat) : Nat :=
  (tail + s.ringSize r - s.taken r) % s.ringSize r

/-- The outstanding count of a ring (R141). -/
def State.outstanding (s : State) (r : RingId) : Nat := s.outstandingTo r (s.ring r).tail

/-! ## Beginning a fetch -/

/-- Whether the fetcher may begin a fetch from the ring (R143). -/
def State.eligible (s : State) (r : RingId) : Bool :=
  s.device == .running && !(s.ring r).broken && 0 < s.outstanding r && s.hasRoom r

/-- The nine rings from the one after the pointer round to the pointer's own (R143). -/
def ringsAfter (pointer : RingId) : List RingId :=
  (List.range 9).map (fun i => ⟨(pointer.val + 1 + i) % 9, Nat.mod_lt _ (by omega)⟩)

/-- The fetcher begins a fetch if none is in progress and a ring is eligible: the pointer moves to the chosen ring, a place
is reserved and the slot read starts (R143). -/
def State.fetchBegin (s : State) : Option State :=
  if s.fetcher.fetch.isSome then none
  else
    ((ringsAfter s.fetcher.pointer).find? s.eligible).map (fun r =>
      { s with fetcher := { pointer := r, fetch := some { ring := r, phase := .read } } }.reserve r)

/-- The host address the fetch in progress reads: the slot at the ring's consumer index (R140, R143). -/
def State.fetchAddr (s : State) (r : RingId) : HostAddr :=
  match s.loaded with
  | some c => (c.rings.get ⟨r.val, by omega⟩).slotAddr r.val (s.ring r).consumer
  | none => 0

/-- The host address of a ring's progress word (R145, 11 section 11.2). -/
def State.progressAddr (s : State) (r : RingId) : HostAddr :=
  match s.loaded with
  | some c => c.progress + BitVec.ofNat 64 (2 * r.val)
  | none => 0

/-- The read of the fetch in progress on the bus, until it ends: the address and the bytes of one slot (R140, R143). -/
def State.fetchRead (s : State) : Option (HostAddr × Nat) :=
  match s.fetcher.fetch with
  | some { ring := r, phase := .read } => some (s.fetchAddr r, slotBytes r.val)
  | _ => none

/-- The progress write of the fetch in progress on the bus, until it ends: the address of the ring's word and its two bytes,
the consumer index as it stands since the record was taken (R144, R145). -/
def State.progressWrite (s : State) : Option (HostAddr × List Byte) :=
  match s.fetcher.fetch with
  | some { ring := r, phase := .progress } => some (s.progressAddr r, progressWord (s.ring r).consumer)
  | _ => none

/-- Whether a fetch for one of the line's two queues is in progress (R76, R147, R164). -/
def State.fetchingFor (s : State) (l : LineId) : Bool :=
  match s.fetcher.fetch with
  | none => false
  | some f =>
    match ringTarget f.ring with
    | some (m, _) => m == l
    | none => false

/-! ## The ends of a fetch -/

/-- RING_FAULT for a ring: line, node and tag 0, the consumer index after the failure as count, the ring number as detail
(R146). -/
def ringFaultRecord (r : RingId) (consumer : Nat) : Completion :=
  { type := .event, line := 0, code := .ringFault, node := 0, tag := 0, count := BitVec.ofNat 16 consumer,
    detail := BitVec.ofNat 32 r.val }

/-- A bus error in a fetch: the ring is broken, RING_FAULT is produced for the service slot, the fetch ends (R146). -/
def State.breakRing (s : State) (r : RingId) : State :=
  ({ s.setRing r { s.ring r with broken := true } with fetcher := { s.fetcher with fetch := none } }).oweService
    (ringFaultRecord r (s.ring r).consumer)

/-- An ARRIVAL returned without a collection: line and node 0, count 0 (R127, R137, R138). -/
def returnedRecord (code : Code) (id : BitVec 32) : Completion := arrivalRecord 0 0 code id 0

/-- A supply record taken: it joins the cache in its reserved place if it qualifies, and is returned CANCELLED at once when
the device is STOPPING; otherwise it is returned BAD_BUFFER and its place stays reserved until that is placed (R127,
R138). -/
def State.supplyTaken (s : State) (b : SupplyRecord) : State :=
  if b.qualifies then
    let s := { s with cacheReserved := s.cacheReserved - 1 }
    if s.device = .stopping then s.oweService (returnedRecord .cancelled b.id)
    else { s with cache := s.cache ++ [b] }
  else s.oweService (returnedRecord .badBuffer b.id)

/-- A request record taken: it joins the back of its queue in its reserved place (R86, R144). -/
def State.requestTaken (s : State) (l : LineId) (side : QueueSide) (r : Request) : State :=
  let ln := s.line l
  let g := ln.engine.setReserved side (ln.engine.reserved side - 1)
  match side with
  | .urgent => s.setLine l { ln with engine := { g with urgent := g.urgent ++ [r] } }
  | .routine => s.setLine l { ln with engine := { g with routine := g.routine ++ [r] } }

/-- The record of a slot read that ended well is taken: it goes to its destination, the consumer index advances, and the
write of the progress word begins (R144, R145). -/
def State.recordTaken (s : State) (r : RingId) (data : List Byte) : State :=
  let ring := s.ring r
  let s := s.setRing r { ring with consumer := nextIndex (s.ringSize r) ring.consumer }
  let s := { s with fetcher := { s.fetcher with fetch := some { ring := r, phase := .progress } } }
  match ringTarget r with
  | some (l, side) => s.requestTaken l side (Request.ofBytes (exactly 48 data))
  | none => s.supplyTaken (SupplyRecord.ofBytes (exactly 16 data))

/-- On entry to STOPPING the cache returns every record it holds, oldest first, as ARRIVAL CANCELLED (R138). -/
def State.returnCache (s : State) : State :=
  { s with cache := [], serviceOwed := s.serviceOwed ++ s.cache.map (fun b => returnedRecord .cancelled b.id) }

/-- The oldest record of the service owed list is placed in the empty service slot; a BAD_BUFFER ARRIVAL gives up its
reserved place then (R127, R148). -/
def State.servicePlace (s : State) : Option State :=
  match s.serviceSlot, s.serviceOwed with
  | none, c :: rest =>
    some { s with
      serviceSlot := some c, serviceOwed := rest,
      cacheReserved := if c.code = .badBuffer then s.cacheReserved - 1 else s.cacheReserved }
  | _, _ => none

end Sys2Proof.Machine
end

