-- ==== Sys2Proof/Machine/Flags.lean ====
section
/-! DEFINITION. Every flag and index the host sees: completion ring occupancy and backpressure, announcements, STATUS, the
interrupt line, and what a read of the register window returns (R149 to R155, R157, R171, 11 section 11.5). -/

namespace Sys2Proof.Machine

/-- The outstanding completions: producer count minus consumed count modulo 65536 (R149). -/
def State.outstandingCompletions (s : State) : Nat := (s.writer.producer - s.writer.consumed).toNat

/-- The producer index: the producer count modulo the ring size (R149). -/
def State.producerIndex (s : State) : Nat := s.writer.producer.toNat % s.complSize

/-- The address of the completion ring's slot at the producer index: where the next record is written, and where the write
in progress goes, since the producer index stands until its end (R149, R151). -/
def State.completionAddr (s : State) : HostAddr :=
  match s.loaded with
  | some c => (c.rings.get 9).slotAddr 9 s.producerIndex
  | none => 0

/-- The write of the Completion Writer on the bus: its address and its 16 bytes (R151). -/
def State.completionWrite (s : State) : Option (HostAddr × List Byte) :=
  s.writer.write.map (fun w => (s.completionAddr, w.bytes))

/-- Whether the completion ring is full: STATUS.backpressure (R153). With no configuration loaded there is no ring. -/
def State.backpressure (s : State) : Bool := s.loaded.isSome && s.outstandingCompletions == s.complSize

/-- The configured coalescing count, 0 when no configuration is loaded (R154). -/
def State.coalescing (s : State) : Nat :=
  match s.loaded with
  | some c => c.coalescing
  | none => 0

/-- The configured holdoff in units of 8 microseconds, 0 when no configuration is loaded (R154). -/
def State.holdoffUnits (s : State) : Nat :=
  match s.loaded with
  | some c => c.holdoff
  | none => 0

/-- An announcement: INT_STATUS.completion is set, the unannounced count is 0 and the holdoff timer stops (R154). -/
def State.announce (s : State) : State :=
  { s.raise causeCompletion with writer := { s.writer with unannounced := 0, holdoff := none } }

/-- The phase a producer count stands for: 1 when the count divided by the size, rounded down, is even (R149). -/
def phaseOf (producer size : Nat) : Bool := (producer / size) % 2 == 0

/-- DeviceState numbers of STATUS (11 section 11.5). -/
def DeviceState.number : DeviceState → Nat
  | .halted => 0
  | .loading => 1
  | .running => 2
  | .stopping => 3
  | .faulted => 4

/-- Error code numbers of STATUS (11 section 11.5). -/
def ErrorCode.number : ErrorCode → Nat
  | .none => 0
  | .cmdRefused => 1
  | .configRange => 2
  | .loadBusError => 3
  | .completionBusError => 4

/-- The broken-ring mask of STATUS, bit r for ring r (R146, 11 section 11.5). -/
def State.brokenMask (s : State) : Nat :=
  (s.rings.toList.zipIdx.map (fun p => p.1.broken.toNat * 2 ^ p.2)).foldl (· + ·) 0

/-- What STATUS reads (11 section 11.5). -/
def State.status (s : State) : Word :=
  BitVec.ofNat 32 (s.device.number + 16 * s.error.number + 128 * s.backpressure.toNat + 256 * s.errorField.toNat +
    65536 * s.brokenMask)

/-- What a 32-bit read returns at a word offset of the window: CONTROL and the offsets 24h..3Fh read 0 (R158, R171). POST
is a write register whose read the spec does not state: none (log 16). -/
def State.readWord (s : State) (offset : Nat) : Option Word :=
  match offset with
  | 0x00 => some Config.devId
  | 0x04 => some 0
  | 0x08 => some s.status
  | 0x0C => some s.configBaseLo
  | 0x10 => some s.configBaseHi
  | 0x14 => none
  | 0x18 => some (s.complConsumed.setWidth 32)
  | 0x1C => some (s.intStatus.setWidth 32)
  | 0x20 => some (s.intEnable.setWidth 32)
  | _ => some 0

/-- The bytes an access width addresses. -/
def accessBytes : AccessSize → Nat
  | .byte => 1
  | .half => 2
  | .three => 3
  | .word => 4

/-- The byte at a byte offset of the window, as a 32-bit read of its register returns it (R171). -/
def State.readByte (s : State) (offset : Nat) : Option Byte :=
  (s.readWord (offset / 4 * 4)).map (fun w => w.extractLsb' (8 * (offset % 4)) 8)

/-- Consecutive bytes of the window from a byte offset, none where one of them is not stated. -/
def State.readBytes (s : State) (offset : Nat) : Nat → Option (List Byte)
  | 0 => some []
  | n + 1 =>
    match s.readByte offset, s.readBytes (offset + 1) n with
    | some b, some bs => some (b :: bs)
    | _, _ => none

/-- What a host read of the window returns, in its low bytes (R171): 0 at the offsets 24h..3Fh at any width; the register at
an offset that is a multiple of 4; the addressed bytes for a narrower read, at any offset. That a narrow read across two
registers returns the bytes of both, and that a 32-bit read between two registers is not stated and answered none, are log
16. -/
def State.readWindow (s : State) (offset : BitVec 6) (size : AccessSize) : Option Word :=
  if 0x24 ≤ offset.toNat then some 0
  else if size = .word ∧ offset.toNat % 4 ≠ 0 then none
  else (s.readBytes offset.toNat (accessBytes size)).map (fun bytes => BitVec.ofNat 32 (leNat bytes))

/-- Whether the interrupt line is asserted: INT_STATUS has a bit set whose enable is set (R155). -/
def State.interrupt (s : State) : Bool := (s.intStatus &&& s.intEnable) != 0#4

end Sys2Proof.Machine
end

