-- ==== Sys2Proof/Machine/Settle.lean ====
section
/-! DEFINITION. What follows within a step: engines at their boundaries, the fetcher's next fetch, the service slot, the
writer's take, and the entry to HALTED, until nothing has anything left to do (R76, R95, R143, R148, R150, R166). -/

namespace Sys2Proof.Machine

/-! ## The Completion Writer's take -/

/-- The record a source holds: sources 0..3 are the post slots, source 4 the service slot (R149). -/
def State.source (s : State) (k : Fin 5) : Option Completion :=
  if h : k.val < 4 then (s.line ⟨k.val, h⟩).engine.slot else s.serviceSlot

/-- The state with a source's slot emptied (R150). -/
def State.emptySource (s : State) (k : Fin 5) : State :=
  if h : k.val < 4 then
    let ln := s.line ⟨k.val, h⟩
    s.setLine ⟨k.val, h⟩ { ln with engine := { ln.engine with slot := none } }
  else { s with serviceSlot := none }

/-- The five sources in turn from the given one (R150). -/
def sourcesFrom (start : Fin 5) : List (Fin 5) :=
  (List.range 5).map (fun i => ⟨(start.val + i) % 5, Nat.mod_lt _ (by omega)⟩)

/-- The sources that hold a record. -/
def State.heldSources (s : State) : List (Fin 5) := (sourcesFrom 0).filter (fun k => (s.source k).isSome)

/-- Whether the writer may take a record: RUNNING or STOPPING, no write in progress, the ring not full (R150, R153). -/
def State.mayTake (s : State) : Bool :=
  (s.device == .running || s.device == .stopping) && s.writer.write.isNone &&
    s.outstandingCompletions < s.complSize

/-- The record of source `k` is taken: the pointer moves, the source's slot is empty, the record gets the stamp and the
present phase, and its write begins (R150, R151). -/
def State.takeFrom (s : State) (k : Fin 5) (c : Completion) : State :=
  let s' := s.emptySource k
  { s' with writer := { s'.writer with
      pointer := k, write := some { record := c, stamp := s.stamp, phase := s.writer.phase } } }

/-- The writer's take (R150). It examines the sources from the one after its pointer. Where no source held a record when
the step began (`fresh`) and several hold one now, they were filled at the same moment, and which filling is taken first
is open: the examination then starts at a free source (log 5). -/
def State.take (s : State) (fresh : Bool) : Option State :=
  if s.mayTake then
    let raced := fresh && 2 ≤ s.heldSources.length
    let start : Fin 5 := if raced then Config.firstSource s.freeCount else s.writer.pointer + 1
    match (sourcesFrom start).find? (fun k => (s.source k).isSome) with
    | none => none
    | some k =>
      (s.source k).map (fun c =>
        { s.takeFrom k c with freeCount := if raced then s.freeCount + 1 else s.freeCount })
  else none

/-! ## Entry to HALTED -/

/-- The conditions under which STOPPING ends (R166). -/
def State.stopped (s : State) : Bool :=
  s.device == .stopping &&
    s.lines.toList.all (fun ln => ln.engine.state == .inactive && ln.engine.slot.isNone) &&
    s.fetcher.fetch.isNone && s.cache.isEmpty && s.cacheReserved == 0 && s.serviceOwed.isEmpty &&
    s.serviceSlot.isNone && s.writer.write.isNone

/-- BARRED entries are cleared to VACANT (R38, R166). -/
def Line.clearBarred (ln : Line) : Line := { ln with table := ln.table.map Entry.unbar }

/-- The device goes from STOPPING to HALTED: BARRED entries are cleared, a remaining unannounced count is announced, and
state_change is set (R166). -/
def State.enterHalted (s : State) : State :=
  let s := if 0 < s.writer.unannounced then s.announce else s
  ({ s.mapLines Line.clearBarred with device := .halted }).raise causeStateChange

/-! ## Moves -/

/-- What line `l`'s engine sees at a boundary. -/
def State.env (s : State) (l : LineId) : EngineEnv := { device := s.device, fetching := s.fetchingFor l }

/-- One move of line `l`'s engine. -/
def State.engineMove (s : State) (l : LineId) : Option State :=
  ((s.line l).engineStep (s.ctx l) (s.env l) s.cache).map (fun p => { s.setLine l p.1 with cache := p.2 })

/-- The first engine that has a move makes it; the lines run independently (00_scope section 1.3). -/
def State.anyEngineMove (s : State) : Option State :=
  (List.finRange 4).findSome? s.engineMove

/-- One move of the part within a step, or none when nothing is left to do: the fetcher begins a fetch, an engine moves, the
service slot is filled, the writer takes a record, STOPPING ends (log 5 for their order). -/
def State.move (s : State) (fresh : Bool) : Option State :=
  match s.fetchBegin with
  | some t => some t
  | none =>
    match s.anyEngineMove with
    | some t => some t
    | none =>
      match s.servicePlace with
      | some t => some t
      | none =>
        match s.take fresh with
        | some t => some t
        | none => if s.stopped then some s.enterHalted else none

/-- At most `n` moves, until none is left. -/
def State.moves (fresh : Bool) : Nat → State → State
  | 0, s => s
  | n + 1, s =>
    match s.move fresh with
    | none => s
    | some t => State.moves fresh n t

/-- The bound on the moves of one step; `moves` stops by itself well before it (log 7). -/
def moveBound : Nat := 400

/-- Whether no source held a record when the step began in state `s`. -/
def State.noneHeld (s : State) : Bool := s.heldSources.isEmpty

/-- Everything that follows within a step that began in `before` and whose own effect gave `s`: moves until none is left,
then the engines that wait show IDLE or BLOCKED (R75). -/
def State.settleFrom (before s : State) : State :=
  (State.moves before.noneHeld moveBound s).mapLines Line.relabel

/-- The step goes on from line `l`'s new contents: if its engine has no exchange and no access in flight, what follows is
done too. -/
def State.finish (s : State) (l : LineId) (ln : Line) : State :=
  if ln.engine.state = .exchanging then s.setLine l ln else s.settleFrom (s.setLine l ln)

/-- A happening reaches line `l`'s engine: an IDLE engine is at a boundary, any other sees it at its next one (R76). -/
def State.wake (s : State) (l : LineId) (ln : Line) : State :=
  if ln.engine.state = .idle then s.settleFrom (s.setLine l ln) else s.setLine l ln

end Sys2Proof.Machine
end

