-- ==== Sys2Proof/Machine/Control.lean ====
section
/-! DEFINITION. The device's own commands: POWER_ON, START, STOP, RESET, CONTROL_NO_COMMAND, and the load of the
configuration block, CONFIG_READ_DONE (chapter 10). -/

namespace Sys2Proof.Machine

/-! ## Accesses on the bus -/

/-- The host access of a line that is on the bus. -/
def Line.accessOnBus (l : LineId) (ln : Line) : List BusAccess :=
  if ln.engine.state = .exchanging then
    match ln.engine.access with
    | some (.segmentRead _ _) => [.segmentRead l]
    | some (.responseWrite _ _ _) => [.responseWrite l]
    | some (.fetchWrite _ _ _) => [.fetchWrite l]
    | some (.collectWrite _ _ _) => [.collectWrite l]
    | none => []
  else []

/-- Every access of the part that is on the bus (R168 lists their kinds). -/
def State.onBus (s : State) : List BusAccess :=
  (if s.loader.isSome then [.configRead] else []) ++
    (match s.fetcher.fetch with
      | some { phase := .read, .. } => [.ringRead]
      | some { phase := .progress, .. } => [.progressWrite]
      | none => []) ++
    (List.finRange 4).flatMap (fun l => Line.accessOnBus l (s.line l)) ++
    (if s.writer.write.isSome then [.completionWrite] else [])

/-- An access whose result is discarded has ended on the bus: nothing else changes (R147, R161, R168). -/
def State.accessDiscarded (s : State) (a : BusAccess) : State := { s with discarding := s.discarding.erase a }

/-! ## Power-on and RESET -/

/-- Power-on (R168): the state of State.reset. The queue of commands is the model's and waits on (log 1). -/
def State.powerOnPart (s : State) : State :=
  { State.reset with freeCount := s.freeCount, pending := s.pending }

/-- A line after RESET: OFF, Transceiver IDLE, entries cleared to VACANT, BARRED ones included, engine INACTIVE and empty
(R10, R13, R23, R38, R59, R75, R168). -/
def Line.resetLine (ln : Line) : Line :=
  { driver := Driver.initial, xcvr := Transceiver.initial, table := ln.table.map Entry.clear, rounds := Rounds.initial,
    engine := Engine.initial .inactive }

/-- RESET (R168): the device is HALTED at once; CONFIG_BASE, INT_ENABLE and the loaded configuration are kept, and the
accesses on the bus are discarded when they end. -/
def State.resetPart (s : State) : State :=
  { State.reset with
    configBaseLo := s.configBaseLo, configBaseHi := s.configBaseHi, intEnable := s.intEnable, loaded := s.loaded,
    lines := s.lines.map Line.resetLine, discarding := s.discarding ++ s.onBus, freeCount := s.freeCount,
    pending := s.pending }

/-! ## START and the load -/

/-- START (R158, R159): in HALTED the device enters LOADING, the loader takes the block address, and the error fields are
cleared; otherwise it is refused. -/
def State.startCommand (s : State) : State :=
  if s.device = .halted then
    { s.setError .none 0 with
      device := .loading,
      loader := some { base := s.configBaseHi ++ s.configBaseLo, copy := [], failed := false } }
  else s.refuseCommand

/-- A load that failed: HALTED with its error, state_change set, the loaded configuration kept (R160). -/
def State.loadFailed (s : State) (code : ErrorCode) (index : BitVec 8) : State :=
  ({ s.setError code index with device := .halted, loader := none }).raise causeStateChange

/-- A line on entry to RUNNING: restart budget loaded, SETTLING if it is enabled at start, Transceiver IDLE, entries
cleared, round state and engine empty (R10, R24, R38, R59, R75, R162). -/
def Line.start (cfg : LineConfig) (ln : Line) : Line :=
  let d := { Driver.initial with restartsLeft := cfg.restartBudget }
  { driver := if cfg.enabledAtStart then d.applySupply cfg else d, xcvr := Transceiver.initial,
    table := ln.table.map Entry.clear, rounds := Rounds.initial, engine := Engine.initial .idle }

/-- Entry to RUNNING (R162): the accepted copy becomes the loaded configuration and every block takes its starting
values. -/
def State.enterRunning (s : State) (cfg : LoadedConfig) : State :=
  ({ s with
    device := .running, loader := none, loaded := some cfg, complConsumed := 0, stamp := 0,
    rings := Vector.replicate 9 Ring.initial, fetcher := Fetcher.initial, cache := [], cacheReserved := 0,
    serviceSlot := none, serviceOwed := [], writer := Writer.initial,
    lines := Vector.ofFn (fun l => Line.start (cfg.lines.get l) (s.line l)) }).raise causeStateChange

/-- The host address of the loader's next read: the block is read in ascending order, so it follows the bytes that the reads
before it covered (R159; log 12). -/
def Loader.readAddr (ld : Loader) : HostAddr := ld.base + BitVec.ofNat 64 ld.copy.length

/-- The address of the block read on the bus while a load is under way (R159). -/
def State.configRead (s : State) : Option HostAddr := s.loader.map Loader.readAddr

/-- The judgement of a load whose last read has ended (R159, R160). -/
def State.judgeLoad (s : State) (ld : Loader) : State :=
  if ld.failed || !fitsTop ld.base Config.blockBytes then s.loadFailed .loadBusError 0
  else
    let cfg := LoadedConfig.ofBytes ld.copy
    match cfg.firstBadField with
    | some i => s.loadFailed .configRange (BitVec.ofNat 8 i)
    | none => s.enterRunning cfg

/-- The working copy after a read, never more than the block (R159). -/
def Loader.add (ld : Loader) (data : List Byte) (failed : Bool) : Loader :=
  { ld with copy := (ld.copy ++ data).take Config.blockBytes, failed := ld.failed || failed }

/-- A read of the block has ended: the load goes on, or is judged when it was the last (R159, R160). -/
def State.loadRead (s : State) (data : List Byte) (failed : Bool) : State :=
  if s.device = .loading then
    match s.loader with
    | none => s
    | some ld =>
      let ld' := ld.add data failed
      if ld'.copy.length < Config.blockBytes then { s with loader := some ld' } else s.judgeLoad ld'
  else s

/-! ## STOP -/

/-- A load abandoned by STOP: HALTED with error code NONE and state_change set; the read on the bus is discarded when it
ends (R161; log 15). -/
def State.abandonLoad (s : State) : State :=
  ({ s.setError .none 0 with
      device := .halted, loader := none, discarding := s.discarding ++ [BusAccess.configRead] }).raise causeStateChange

/-- STOP (R158, R161, R164). In RUNNING the device enters STOPPING: the cache returns its records, and the engines come to
their boundaries. -/
def State.stopCommand (s : State) : State :=
  match s.device with
  | .halted => s.refuseCommand
  | .loading => s.abandonLoad
  | .running => s.settleFrom ({ s with device := .stopping }).returnCache
  | .stopping => s
  | .faulted => s.refuseCommand

/-! ## Meanings -/

/-- POWER_ON (R168). -/
def execPowerOn (s : State) : Host.Outcome State Fault Refusal := .next s.powerOnPart

/-- START (R158, R159). -/
def execStart (s : State) : Host.Outcome State Fault Refusal := .next s.startCommand

/-- STOP (R158, R161, R164). -/
def execStop (s : State) : Host.Outcome State Fault Refusal := .next s.stopCommand

/-- RESET (R158, R168). -/
def execReset (s : State) : Host.Outcome State Fault Refusal := .next s.resetPart

/-- CONTROL_NO_COMMAND (R158, R171): refused in every state. -/
def execControlNoCommand (s : State) : Host.Outcome State Fault Refusal := .next s.refuseCommand

/-- CONFIG_READ_DONE (R159, R160, R161). -/
def execConfigReadDone (read : LoadEnd) (s : State) : Host.Outcome State Fault Refusal :=
  match read with
  | .ok data => .next (s.loadRead data false)
  | .busError length => .next (s.loadRead (List.replicate length 0) true)
  | .discarded => .next (s.accessDiscarded .configRead)

end Sys2Proof.Machine
end

