-- ==== Sys2Proof/Machine/Registers.lean ====
section
/-! DEFINITION. The host's writes to the register window: POST, COMPL_CONSUMED, INT_STATUS_WRITE, REGISTER_WRITE (sections
9.2, 9.6, 9.7 and 11.5). -/

namespace Sys2Proof.Machine

/-- Whether a post is taken (R142). -/
def State.postTaken (s : State) (ring tail : Nat) : Bool :=
  if h : ring < 9 then
    let r : RingId := ⟨ring, h⟩
    s.device == .running && tail < s.ringSize r && s.outstanding r ≤ s.outstandingTo r tail
  else false

/-- A write to POST (R142, R143): a post that is taken replaces the tail, and the fetcher looks again; any other is ignored
with post_error. -/
def State.postWrite (s : State) (value : Word) : State :=
  if h : postRing value < 9 then
    let r : RingId := ⟨postRing value, h⟩
    if s.postTaken (postRing value) (postTail value) then
      let s' := s.setRing r { s.ring r with tail := postTail value }
      s'.fetchBegin.getD s'
    else s.raise causePostError
  else s.raise causePostError

/-- The advance a slot index names: the slots from the present consumed position up to it (R152). -/
def State.advanceTo (s : State) (index : Nat) : Nat :=
  (index + s.complSize - s.writer.consumed.toNat % s.complSize) % s.complSize

/-- A write to COMPL_CONSUMED (R152, R153). -/
def State.consumedWrite (s : State) (value : Word) : State :=
  if s.device = .running ∨ s.device = .stopping then
    let c := consumedIndex value
    if s.complSize ≤ c.toNat then s.raise causePostError
    else
      let a := s.advanceTo c.toNat
      if s.outstandingCompletions < a then s.raise causePostError
      else if a = 0 then s
      else
        s.settleFrom { s with
          complConsumed := c, writer := { s.writer with consumed := s.writer.consumed + BitVec.ofNat 16 a } }
  else s

/-- A write to INT_STATUS clears every bit written as 1 (R155, R171). -/
def State.statusWrite (s : State) (value : Word) : State :=
  { s with intStatus := s.intStatus &&& ~~~(causeBits value) }

/-- A CONTROL write, by the command in its bits 0..1 (R158, R171). -/
def State.controlWrite (s : State) (value : Word) : State :=
  if value.extractLsb' 0 2 = 1#2 then s.startCommand
  else if value.extractLsb' 0 2 = 2#2 then s.stopCommand
  else if value.extractLsb' 0 2 = 3#2 then s.resetPart
  else s.refuseCommand

/-- A 32-bit write at a window offset (R171, 11 section 11.5). DEV_ID, STATUS and the offsets 24h..3Fh ignore it; so does
an offset that is no register's (log 16). -/
def State.wordWrite (s : State) (offset : BitVec 6) (value : Word) : State :=
  match offset.toNat with
  | 0x04 => s.controlWrite value
  | 0x0C => { s with configBaseLo := value }
  | 0x10 => { s with configBaseHi := value }
  | 0x14 => s.postWrite value
  | 0x18 => s.consumedWrite value
  | 0x1C => s.statusWrite value
  | 0x20 => { s with intEnable := causeBits value }
  | _ => s

/-- POST (R142). -/
def execPost (value : Word) (s : State) : Host.Outcome State Fault Refusal := .next (s.postWrite value)

/-- COMPL_CONSUMED (R152). -/
def execComplConsumed (value : Word) (s : State) : Host.Outcome State Fault Refusal := .next (s.consumedWrite value)

/-- INT_STATUS_WRITE (R155). -/
def execIntStatusWrite (value : Word) (s : State) : Host.Outcome State Fault Refusal := .next (s.statusWrite value)

/-- REGISTER_WRITE (R171): a narrow write is ignored at any offset; a 32-bit write is taken by the register at the
offset. -/
def execRegisterWrite (offset : BitVec 6) (size : AccessSize) (value : Word) (s : State) :
    Host.Outcome State Fault Refusal :=
  match size with
  | .word => .next (s.wordWrite offset value)
  | .half => .next s
  | .three => .next s
  | .byte => .next s

end Sys2Proof.Machine
end

