-- ==== Sys2Proof/Machine/Timers.lean ====
section
/-! DEFINITION. Timers running out and the overcurrent detector: SETTLE_TIMER_EXPIRY, COOLDOWN_TIMER_EXPIRY,
OVERCURRENT_TRIP, POLL_TIMER_EXPIRY, BUSY_BACKOFF_EXPIRY, HOLDOFF_EXPIRY, and the Time Base's microsecond. A happening that
cannot occur in a state has no effect there (log 4). -/

namespace Sys2Proof.Machine

/-- Whether the engines and the Time Base run: RUNNING or STOPPING (R157, R163). -/
def State.serving (s : State) : Bool := s.device == .running || s.device == .stopping

/-- The poll period as a timer: units of 10 ms (R59). -/
def LineConfig.pollTimer (cfg : LineConfig) : Timer := startMs (10 * cfg.pollPeriod)

/-- The line comes UP: rounds-since-UP 0, round number 0, a discovery round pending, the probe cursor at 12, the poll timer
started, LINE_UP owed (R25, R59). -/
def Line.comeUp (ln : Line) (cfg : LineConfig) : Line :=
  { ln with
    driver := { ln.driver with state := .up, roundsSinceUp := 0, settle := none },
    rounds := { ln.rounds with
      pollTimer := cfg.pollTimer, pending := true, discovery := true, number := 0, cursor := 11 },
    engine := { ln.engine with lineUpOwed := true } }

/-- SETTLE_TIMER_EXPIRY (R25). -/
def execSettleTimerExpiry (l : LineId) (s : State) : Host.Outcome State Fault Refusal :=
  let ln := s.line l
  if s.serving ∧ ln.driver.state = .settling then .next (s.wake l (ln.comeUp (s.lineConfig l))) else .next s

/-- COOLDOWN_TIMER_EXPIRY (R31): the supply is applied and the driver goes from COOLDOWN to SETTLING. -/
def execCooldownTimerExpiry (l : LineId) (s : State) : Host.Outcome State Fault Refusal :=
  let ln := s.line l
  if s.serving ∧ ln.driver.state = .cooldown then
    .next (s.setLine l { ln with driver := ln.driver.applySupply (s.lineConfig l) })
  else .next s

/-- The driver trips: the supply is removed at once, the settle timer stops, a trip waits to be processed; the line leaves
UP if it was UP, and an exchange on the wire ends FAILED with cause TRIP, its result keeping the counts of the attempts
already finished (R13, R26, R27). -/
def Line.trip (ln : Line) (x : LineCtx) : Line :=
  let tripped := { ln with
    driver := { ln.driver with state := .tripped, settle := none },
    engine := { ln.engine with tripPending := true } }
  let left := if ln.driver.state = .up then tripped.leaveUp else tripped
  if ln.xcvr.state = .idle then left else left.exchangeEnd x ln.xcvr.cutOffResult

/-- OVERCURRENT_TRIP (R26): the detector acts in SETTLING and UP (R23). -/
def execOvercurrentTrip (l : LineId) (s : State) : Host.Outcome State Fault Refusal :=
  let ln := s.line l
  if s.serving ∧ (ln.driver.state = .settling ∨ ln.driver.state = .up) then .next (s.wake l (ln.trip (s.ctx l))) else .next s

/-- POLL_TIMER_EXPIRY (R60, R61): the pending-round mark is set and the period starts again. -/
def execPollTimerExpiry (l : LineId) (s : State) : Host.Outcome State Fault Refusal :=
  let ln := s.line l
  if s.serving ∧ ln.rounds.pollTimer.isSome then
    .next (s.wake l { ln with rounds := { ln.rounds with
      pending := true, pollTimer := (s.lineConfig l).pollTimer } })
  else .next s

/-- The step at the head of a queue is no longer in backoff (R84); none when it was not. -/
def Line.backoffOver (ln : Line) (side : QueueSide) : Option Line :=
  match side with
  | .urgent =>
    if ln.engine.urgentDeadline.isSome then
      some { ln with engine := { ln.engine with urgentDeadline := none } }
    else none
  | .routine =>
    match ln.engine.transfer with
    | none => none
    | some t => if t.deadline.isSome then some (ln.setTransfer { t with deadline := none }) else none

/-- BUSY_BACKOFF_EXPIRY (R84). -/
def execBusyBackoffExpiry (l : LineId) (side : QueueSide) (s : State) : Host.Outcome State Fault Refusal :=
  if s.serving then
    match (s.line l).backoffOver side with
    | some ln => .next (s.wake l ln)
    | none => .next s
  else .next s

/-- HOLDOFF_EXPIRY (R154): an announcement if records are unannounced. -/
def execHoldoffExpiry (s : State) : Host.Outcome State Fault Refusal :=
  if s.writer.holdoff.isSome then
    if 0 < s.writer.unannounced then .next s.announce
    else .next { s with writer := { s.writer with holdoff := none } }
  else .next s

/-! ## The Time Base -/

/-- A timer one microsecond later; at 0 it is due, and its running out is its own row (log 13). -/
def Timer.tick (t : Timer) : Timer := t.map (· - 1)

/-- A line's timers one microsecond later (R163). -/
def Line.tick (ln : Line) : Line :=
  { ln with
    driver := { ln.driver with settle := Timer.tick ln.driver.settle, cooldown := Timer.tick ln.driver.cooldown },
    xcvr := { ln.xcvr with window := Timer.tick ln.xcvr.window },
    rounds := { ln.rounds with pollTimer := Timer.tick ln.rounds.pollTimer },
    engine := { ln.engine with
      urgentDeadline := Timer.tick ln.engine.urgentDeadline,
      transfer := ln.engine.transfer.map (fun t => { t with deadline := Timer.tick t.deadline }) } }

/-- One microsecond of the Time Base (R163): the stamp counts and the timers run while the device is RUNNING or STOPPING;
all stand still otherwise. -/
def State.tick (s : State) : State :=
  if s.serving then
    { s.mapLines Line.tick with
      stamp := s.stamp + 1, writer := { s.writer with holdoff := Timer.tick s.writer.holdoff } }
  else s

end Sys2Proof.Machine
end

