-- ==== Sys2Proof/Machine/Wire.lean ====
section
/-! DEFINITION. What happens on a line's wire: FRAME_SENT, NODE_START_BIT, REPLY_WINDOW_CLOSE, END_OF_REPLY, REPLY_OVERRUN
(chapter 1). Line activity outside its Transceiver state has no effect (R4; log 4). -/

namespace Sys2Proof.Machine

/-- The reply timeout as a timer: units of 100 microseconds (R4). -/
def LineConfig.replyWindow (cfg : LineConfig) : Timer := some (100 * cfg.replyTimeout)

/-- The last stop bit of the frame is sent: the attempt count increases and the reply window opens (R4, R10). -/
def Transceiver.frameSent (t : Transceiver) (cfg : LineConfig) : Transceiver :=
  { t with state := .waiting, attempts := t.attempts + 1, window := cfg.replyWindow }

/-- A node start bit in the reply window: a reply has begun (R4, R10). -/
def Transceiver.replyBegun (t : Transceiver) : Transceiver := { t with state := .receiving, window := none }

/-- The same frame goes out again (R11). -/
def Transceiver.resend (t : Transceiver) (garbled : Nat) : Transceiver :=
  { t with state := .sending, garbled := garbled, window := none }

/-- An attempt ended SILENT or GARBLED (R11): the frame is sent again within the retry limit, otherwise the exchange ends
FAILED. -/
def Line.attemptFailed (ln : Line) (x : LineCtx) (garbled : Bool) : Line :=
  let g := if garbled then ln.xcvr.garbled + 1 else ln.xcvr.garbled
  if ln.xcvr.attempts < 1 + x.cfg.retryLimit then { ln with xcvr := ln.xcvr.resend g }
  else ln.exchangeEnd x { reply := none, attempts := ln.xcvr.attempts, garbled := g }

/-- A reply is complete and judged (R9, R11). -/
def Line.replyEnded (ln : Line) (x : LineCtx) (rx : List RxByte) : Line :=
  match ln.xcvr.frame.bind (fun f => judge f rx) with
  | some r => ln.exchangeEnd x { reply := some r, attempts := ln.xcvr.attempts, garbled := ln.xcvr.garbled }
  | none => ln.attemptFailed x true

/-- FRAME_SENT (R4, R10). -/
def execFrameSent (l : LineId) (s : State) : Host.Outcome State Fault Refusal :=
  let ln := s.line l
  if ln.xcvr.state = .sending then
    .next (s.setLine l { ln with xcvr := ln.xcvr.frameSent (s.lineConfig l) })
  else .next s

/-- NODE_START_BIT (R1, R4, R10). -/
def execNodeStartBit (l : LineId) (s : State) : Host.Outcome State Fault Refusal :=
  let ln := s.line l
  if ln.xcvr.state = .waiting then .next (s.setLine l { ln with xcvr := ln.xcvr.replyBegun }) else .next s

/-- REPLY_WINDOW_CLOSE (R4, R9, R11): the attempt ends SILENT. -/
def execReplyWindowClose (l : LineId) (s : State) : Host.Outcome State Fault Refusal :=
  let ln := s.line l
  if ln.xcvr.state = .waiting then .next (s.finish l (ln.attemptFailed (s.ctx l) false)) else .next s

/-- END_OF_REPLY (R3, R9, R11). -/
def execEndOfReply (l : LineId) (reply : List RxByte) (s : State) : Host.Outcome State Fault Refusal :=
  let ln := s.line l
  if ln.xcvr.state = .receiving then .next (s.finish l (ln.replyEnded (s.ctx l) reply)) else .next s

/-- REPLY_OVERRUN (R3, R9, R11): the reply is closed as cut short, so the attempt is GARBLED. -/
def execReplyOverrun (l : LineId) (s : State) : Host.Outcome State Fault Refusal :=
  let ln := s.line l
  if ln.xcvr.state = .receiving then .next (s.finish l (ln.attemptFailed (s.ctx l) true)) else .next s

end Sys2Proof.Machine
end

