-- ==== Sys2Proof/Machine/Bus.lean ====
section
/-! DEFINITION. The ends of the part's host memory accesses: RING_READ_DONE, PROGRESS_WRITE_DONE, SEGMENT_READ_DONE,
RESPONSE_WRITE_DONE, FETCH_SEGMENT_WRITE_DONE, COLLECT_SEGMENT_WRITE_DONE, COMPLETION_WRITE_DONE. An end for which no
access of its kind is in flight has no effect (log 4); a discarded one only leaves the bus (log 11). -/

namespace Sys2Proof.Machine

/-! ## The Ring Fetcher's accesses -/

/-- The slot read of the fetch in progress ends well (R144). -/
def State.ringReadGood (s : State) (data : List Byte) : State :=
  match s.fetcher.fetch with
  | some { ring := r, phase := .read } => s.settleFrom (s.recordTaken r data)
  | _ => s

/-- The slot read of the fetch in progress ends in a bus error: the place is released and the ring broken (R146). -/
def State.ringReadBad (s : State) : State :=
  match s.fetcher.fetch with
  | some { ring := r, phase := .read } => s.settleFrom ((s.release r).breakRing r)
  | _ => s

/-- The progress write of the fetch in progress ends; a bus error breaks the ring (R145, R146). -/
def State.progressEnded (s : State) (good : Bool) : State :=
  match s.fetcher.fetch with
  | some { ring := r, phase := .progress } =>
    if good then s.settleFrom { s with fetcher := { s.fetcher with fetch := none } }
    else s.settleFrom (s.breakRing r)
  | _ => s

/-- RING_READ_DONE (R86, R127, R144, R146, R147). -/
def execRingReadDone (read : ReadEnd) (s : State) : Host.Outcome State Fault Refusal :=
  match read with
  | .ok data => .next (s.ringReadGood data)
  | .busError => .next s.ringReadBad
  | .discarded => .next (s.accessDiscarded .ringRead)

/-- PROGRESS_WRITE_DONE (R144, R145, R146, R147). -/
def execProgressWriteDone (write : WriteEnd) (s : State) : Host.Outcome State Fault Refusal :=
  match write with
  | .ok => .next (s.progressEnded true)
  | .busError => .next (s.progressEnded false)
  | .discarded => .next (s.accessDiscarded .progressWrite)

/-! ## The engines' accesses -/

/-- The access of line `l` that is in flight: only an EXCHANGING engine has one (R98). -/
def State.accessOf (s : State) (l : LineId) : Option HostAccess :=
  if (s.line l).engine.state = .exchanging then (s.line l).engine.access else none

/-- The segment read of line `l` ends (R102, R105). -/
def State.segmentReadEnded (s : State) (l : LineId) (data : Option (List Byte)) : State :=
  match s.accessOf l with
  | some (.segmentRead _ n) => s.finish l ((s.line l).segmentRead l n data)
  | _ => s

/-- The response write of line `l` ends (R100). -/
def State.responseWriteEnded (s : State) (l : LineId) (good : Bool) : State :=
  match s.accessOf l with
  | some (.responseWrite side _ data) => s.finish l ((s.line l).responseWritten l side data.length good)
  | _ => s

/-- The FETCH segment write of line `l` ends (R107, R108, R109). -/
def State.fetchWriteEnded (s : State) (l : LineId) (good : Bool) : State :=
  match s.accessOf l with
  | some (.fetchWrite _ data after) => s.finish l ((s.line l).fetchWritten l data.length after good)
  | _ => s

/-- The collection segment write of line `l` ends (R132, R133, R134). -/
def State.collectWriteEnded (s : State) (l : LineId) (good : Bool) : State :=
  match s.accessOf l with
  | some (.collectWrite _ data after) => s.finish l ((s.line l).collectWritten l data.length after good)
  | _ => s

/-- SEGMENT_READ_DONE (R102, R105). -/
def execSegmentReadDone (l : LineId) (read : ReadEnd) (s : State) : Host.Outcome State Fault Refusal :=
  match read with
  | .ok data => .next (s.segmentReadEnded l (some data))
  | .busError => .next (s.segmentReadEnded l none)
  | .discarded => .next (s.accessDiscarded (.segmentRead l))

/-- RESPONSE_WRITE_DONE (R100). -/
def execResponseWriteDone (l : LineId) (write : WriteEnd) (s : State) : Host.Outcome State Fault Refusal :=
  match write with
  | .ok => .next (s.responseWriteEnded l true)
  | .busError => .next (s.responseWriteEnded l false)
  | .discarded => .next (s.accessDiscarded (.responseWrite l))

/-- FETCH_SEGMENT_WRITE_DONE (R107, R108, R109). -/
def execFetchSegmentWriteDone (l : LineId) (write : WriteEnd) (s : State) : Host.Outcome State Fault Refusal :=
  match write with
  | .ok => .next (s.fetchWriteEnded l true)
  | .busError => .next (s.fetchWriteEnded l false)
  | .discarded => .next (s.accessDiscarded (.fetchWrite l))

/-- COLLECT_SEGMENT_WRITE_DONE (R132, R133, R134). -/
def execCollectSegmentWriteDone (l : LineId) (write : WriteEnd) (s : State) : Host.Outcome State Fault Refusal :=
  match write with
  | .ok => .next (s.collectWriteEnded l true)
  | .busError => .next (s.collectWriteEnded l false)
  | .discarded => .next (s.accessDiscarded (.collectWrite l))

/-! ## The Completion Writer's access -/

/-- The Completion Writer after a record is written (R151, R154): the producer count increases, the phase inverts when the
new producer index is 0, the unannounced count increases, and the holdoff starts with the first unannounced record. -/
def State.countWritten (s : State) : State :=
  let p := s.writer.producer + 1
  { s with writer := { s.writer with
      producer := p,
      phase := if p.toNat % s.complSize = 0 then !s.writer.phase else s.writer.phase,
      unannounced := s.writer.unannounced + 1,
      holdoff := if s.writer.unannounced = 0 then some (8 * s.holdoffUnits) else s.writer.holdoff,
      write := none } }

/-- The announcement that is due after a record: the coalescing count reached, or a holdoff of 0 (R154). -/
def State.announceDue (s : State) : State :=
  if s.coalescing ≤ s.writer.unannounced ∨ s.holdoffUnits = 0 then s.announce else s

/-- A line on entry to FAULTED: the supply removed, the exchange stopped, the engine FROZEN with everything it holds (R13,
R23, R75, R167). -/
def Line.freeze (ln : Line) : Line :=
  { ln with
    driver := ln.driver.turnOff, xcvr := Transceiver.initial, engine := { ln.engine with state := .frozen } }

/-- Entry to FAULTED when a completion write fails (R147, R154, R156, R167): the record is lost, the fetcher stops, the
accesses on the bus are discarded when they end. -/
def State.enterFaulted (s : State) : State :=
  let s := { s with writer := { s.writer with write := none, holdoff := none } }
  ({ (s.mapLines Line.freeze).setError .completionBusError 0 with
    device := .faulted, fetcher := { s.fetcher with fetch := none },
    discarding := s.discarding ++ s.onBus }).raise causeFault

/-- The completion write in progress ends (R151, R156). -/
def State.completionEnded (s : State) (good : Bool) : State :=
  if s.serving ∧ s.writer.write.isSome then
    if good then s.settleFrom s.countWritten.announceDue else s.enterFaulted
  else s

/-- COMPLETION_WRITE_DONE (R151, R154, R156). -/
def execCompletionWriteDone (write : WriteEnd) (s : State) : Host.Outcome State Fault Refusal :=
  match write with
  | .ok => .next (s.completionEnded true)
  | .busError => .next (s.completionEnded false)
  | .discarded => .next (s.accessDiscarded .completionWrite)

end Sys2Proof.Machine
end

