-- ==== Sys2Proof/Machine/Dispatch.lean ====
section
/-! DEFINITION. One arm per command of Syntax.lean. -/

namespace Sys2Proof.Machine

/-- The effect of a command on everything but the queue of waiting commands. -/
def exec (i : Instr) (s : State) : Host.Outcome State Fault Refusal :=
  match i with
  | .powerOn => Sys2Proof.Machine.execPowerOn s
  | .start => Sys2Proof.Machine.execStart s
  | .stop => Sys2Proof.Machine.execStop s
  | .reset => Sys2Proof.Machine.execReset s
  | .controlNoCommand => Sys2Proof.Machine.execControlNoCommand s
  | .post value => Sys2Proof.Machine.execPost value s
  | .complConsumed value => Sys2Proof.Machine.execComplConsumed value s
  | .intStatusWrite value => Sys2Proof.Machine.execIntStatusWrite value s
  | .registerWrite offset size value => Sys2Proof.Machine.execRegisterWrite offset size value s
  | .configReadDone read => Sys2Proof.Machine.execConfigReadDone read s
  | .settleTimerExpiry line => Sys2Proof.Machine.execSettleTimerExpiry line s
  | .cooldownTimerExpiry line => Sys2Proof.Machine.execCooldownTimerExpiry line s
  | .overcurrentTrip line => Sys2Proof.Machine.execOvercurrentTrip line s
  | .pollTimerExpiry line => Sys2Proof.Machine.execPollTimerExpiry line s
  | .busyBackoffExpiry line side => Sys2Proof.Machine.execBusyBackoffExpiry line side s
  | .holdoffExpiry => Sys2Proof.Machine.execHoldoffExpiry s
  | .frameSent line => Sys2Proof.Machine.execFrameSent line s
  | .replyWindowClose line => Sys2Proof.Machine.execReplyWindowClose line s
  | .endOfReply line reply => Sys2Proof.Machine.execEndOfReply line reply s
  | .replyOverrun line => Sys2Proof.Machine.execReplyOverrun line s
  | .ringReadDone read => Sys2Proof.Machine.execRingReadDone read s
  | .progressWriteDone write => Sys2Proof.Machine.execProgressWriteDone write s
  | .segmentReadDone line read => Sys2Proof.Machine.execSegmentReadDone line read s
  | .responseWriteDone line write => Sys2Proof.Machine.execResponseWriteDone line write s
  | .fetchSegmentWriteDone line write => Sys2Proof.Machine.execFetchSegmentWriteDone line write s
  | .collectSegmentWriteDone line write => Sys2Proof.Machine.execCollectSegmentWriteDone line write s
  | .completionWriteDone write => Sys2Proof.Machine.execCompletionWriteDone write s
  | .nodeStartBit line => Sys2Proof.Machine.execNodeStartBit line s

end Sys2Proof.Machine
end

