-- ==== Sys2Proof/Machine/Node.lean ====
section
/-! DEFINITION. A node that keeps the obligations the master relies on (R15, R17, R19 to R22). It is another agent: no
field of State holds it and no command runs it (log 21). It states what the far end of the alternating bits does, so that
claims about both ends can be made. -/

namespace Sys2Proof.Machine

/-- A run of data a node sends in segments: what is not sent yet, the last segment sent with its LAST flag, and whether
the LAST one has been sent (R19, R20, R21). -/
structure NodeStream where
  rest : List Byte
  lastSent : Option (List Byte × Bool)
  deriving DecidableEq, Repr

/-- An open bulk session at a node (R20). -/
inductive NodeSession where
  /-- A store session: its total and the data stored. -/
  | store (total : Nat) (data : List Byte)
  /-- A read session. -/
  | read (stream : NodeStream)
  deriving DecidableEq, Repr

/-- A node's bookkeeping (R15, R17, R19, R20, R21). -/
structure NodeState where
  address : Node
  identity : BitVec 32
  capability : BitVec 16
  /-- Toggle of the last frame acted on. -/
  actedToggle : Bool
  /-- Kind and FIRST flag of the last frame acted on; none after an IDENTIFY. -/
  actedKind : Option (FrameKind × Bool)
  /-- ACK payload sent for that frame. -/
  ackPayload : List Byte
  /-- Last sent data toggle. -/
  dataToggle : Bool
  session : Option NodeSession
  offer : Option (List Byte)
  collection : Option NodeStream
  alert : Bool
  deriving DecidableEq, Repr

/-- What the node can and will do with a frame, which only the node knows (R15, R19, R22): act, with the response of a COMMAND
or the data of a read session; not yet; or not at all, which it may only say of a new COMMAND, WDATA or ROPEN. -/
inductive NodeWill where
  | act (data : List Byte)
  | busy
  | refuse
  deriving DecidableEq, Repr

/-- A reply of the node, with the indications of its present condition (R7, R15, R21). -/
def NodeState.reply (n : NodeState) (kind : ReplyKind) (payload : List Byte) (toggle last : Bool) : Reply :=
  { kind := kind, payload := payload, offer := n.offer.isSome, alert := n.alert, last := last, toggle := toggle }

/-- Whether a frame carrying the send toggle repeats the last frame acted on (R15). -/
def NodeState.isRepeat (n : NodeState) (f : Frame) : Bool :=
  f.toggle == n.actedToggle && n.actedKind == some (f.kind, f.first)

/-- The node after acting on an IDENTIFY (R17). -/
def NodeState.identified (n : NodeState) : NodeState :=
  { n with actedToggle := true, actedKind := none, ackPayload := [], dataToggle := true, session := none,
           collection := none }

/-- The node's record after acting on a frame that carries the send toggle (R15). -/
def NodeState.acted (n : NodeState) (f : Frame) (payload : List Byte) : NodeState :=
  { n with actedToggle := f.toggle, actedKind := some (f.kind, f.first), ackPayload := payload }

/-- What acting on a WDATA does to the session; none when it has no store session to belong to, or would go beyond the
total (R20). -/
def NodeState.store (n : NodeState) (f : Frame) : Option NodeState :=
  let opened : Option (Nat × List Byte) :=
    if f.first then some (leNat (f.payload.take 2), f.payload.drop 2)
    else
      match n.session with
      | some (.store total data) => some (total, data ++ f.payload)
      | _ => none
  match opened with
  | none => none
  | some (total, data) =>
    if total < data.length then none
    else if data.length = total then some { n with session := none }
    else some { n with session := some (.store total data) }

/-- The node after a NAK_REFUSED to a WDATA: one without FIRST is a frame of an open store session, which the refusal
closes; a read session is not its own and stays open (R20). -/
def NodeState.refusedWrite (n : NodeState) (f : Frame) : NodeState :=
  match n.session with
  | some (.store _ _) => if f.first then n else { n with session := none }
  | _ => n

/-- The answer of a node that cannot act on the frame now: NAK_BUSY, its bookkeeping unchanged (R15, R19). -/
def NodeState.busy (n : NodeState) (f : Frame) : NodeState × Reply := (n, n.reply .nakBusy [] f.toggle false)

/-- NAK_REFUSED, after which the bookkeeping is `m` (R15, R19, R20, R21). -/
def NodeState.refuse (n m : NodeState) (f : Frame) : NodeState × Reply := (m, n.reply .nakRefused [] f.toggle false)

/-- ACK to a frame that carries the send toggle and is acted on, after which the session is that of `m` (R15). -/
def NodeState.act (m : NodeState) (f : Frame) (payload : List Byte) : NodeState × Reply :=
  (m.acted f payload, m.reply .ack payload f.toggle false)

/-- The answer to a new WDATA (R15, R20): NAK_REFUSED when it belongs to no store session or goes beyond the total, whatever
the node would do; otherwise as it will. -/
def NodeState.answerWrite (n : NodeState) (will : NodeWill) (f : Frame) : NodeState × Reply :=
  match n.store f, will with
  | none, _ => n.refuse (n.refusedWrite f) f
  | some m, .act _ => m.act f []
  | some _, .busy => n.busy f
  | some _, .refuse => n.refuse (n.refusedWrite f) f

/-- The answer to a new ROPEN (R15, R20): it opens a read session of as much of the node's data as was requested. -/
def NodeState.answerOpen (n : NodeState) (will : NodeWill) (f : Frame) : NodeState × Reply :=
  match will with
  | .busy => n.busy f
  | .refuse => n.refuse n f
  | .act data =>
    let available := data.take (leNat f.payload)
    ({ n with session := some (.read { rest := available, lastSent := none }) } : NodeState).act f
      (leBytes 2 available.length)

/-- The answer to a new COMMAND (R15): a response of at most 32 bytes (R8). -/
def NodeState.answerCommand (n : NodeState) (will : NodeWill) (f : Frame) : NodeState × Reply :=
  match will with
  | .busy => n.busy f
  | .refuse => n.refuse n f
  | .act data => n.act f (data.take 32)

/-- The answer to a COMMAND, WDATA or ROPEN (R15): a repeat is acknowledged with the payload first sent and not acted on
again, anything else is new. -/
def NodeState.answerSend (n : NodeState) (f : Frame) (new : NodeState × Reply) : NodeState × Reply :=
  if n.isRepeat f then (n, n.reply .ack n.ackPayload f.toggle false) else new

/-- The stream after its next segment, and that segment with its LAST flag; none when everything has been sent (R19). -/
def NodeStream.advance (st : NodeStream) : Option (NodeStream × List Byte × Bool) :=
  if st.rest = [] then none
  else
    let seg := st.rest.take 32
    let last := decide (st.rest.length ≤ 32)
    some ({ rest := st.rest.drop 32, lastSent := some (seg, last) }, seg, last)

/-- The answer to an RDATA or COLLECT with expected toggle `t` for a stream (R19): the same segment again when `t` is the
last sent data toggle and one has been sent, otherwise the next one. -/
def NodeStream.answer (st : NodeStream) (dataToggle t : Bool) : Option (NodeStream × List Byte × Bool) :=
  match st.lastSent with
  | some (seg, last) => if t = dataToggle then some (st, seg, last) else st.advance
  | none => st.advance

/-- The answer to an RDATA (R19, R20): NAK_REFUSED when there is no read session it can belong to, one that has ended and is
asked for more among them; otherwise NAK_BUSY from a node that cannot produce the segment now, or the segment. -/
def NodeState.answerRead (n : NodeState) (will : NodeWill) (f : Frame) : NodeState × Reply :=
  match n.session with
  | some (.read st) =>
    match st.answer n.dataToggle f.toggle with
    | some (st', seg, last) =>
      if will = .busy then n.busy f
      else ({ n with session := some (.read st'), dataToggle := f.toggle }, n.reply .ack seg f.toggle last)
    | none => n.refuse { n with session := none } f
  | _ => n.refuse n f

/-- The stream a COLLECT continues, with the segment it asks for: with FIRST set the collection starts anew; none when the
node has no offer or no collection it can belong to (R19, R21). -/
def NodeState.collectNext (n : NodeState) (f : Frame) : Option (NodeStream × List Byte × Bool) :=
  if f.first then n.offer.bind (fun data => ({ rest := data, lastSent := none } : NodeStream).advance)
  else n.collection.bind (fun st => st.answer n.dataToggle f.toggle)

/-- The answer to a COLLECT (R19, R21): NAK_REFUSED when it can belong to no collection; otherwise NAK_BUSY from a node that
cannot produce the segment now, or the segment. -/
def NodeState.answerCollect (n : NodeState) (will : NodeWill) (f : Frame) : NodeState × Reply :=
  match n.collectNext f with
  | some (st, seg, last) =>
    if will = .busy then n.busy f
    else ({ n with collection := some st, dataToggle := f.toggle }, n.reply .ack seg f.toggle last)
  | none => n.refuse n f

/-- Whether the LAST segment of a stream has been sent. -/
def NodeStream.finished (st : NodeStream) : Bool :=
  match st.lastSent with
  | some (_, last) => last
  | none => false

/-- The answer to a CLOSE (R20, R21, R22): ACK always. COLLECTED discharges an offer whose LAST segment was sent, and
otherwise leaves it whole; DONE and ABANDONED close an open session. -/
def NodeState.answerClose (n : NodeState) (f : Frame) : NodeState × Reply :=
  let m :=
    if f.payload = [CloseReason.byte .collected] then
      match n.collection with
      | some st => if st.finished then { n with offer := none, collection := none } else { n with collection := none }
      | none => n
    else { n with session := none }
  (m, m.reply .ack [] false false)

/-- What a node that keeps its obligations answers to a master frame, and its bookkeeping after it; none when the frame is
not addressed to it (R15, R17, R19 to R22). -/
def NodeState.answer (n : NodeState) (will : NodeWill) (f : Frame) : NodeState × Option Reply :=
  if f.node ≠ n.address then (n, none)
  else
    let out : NodeState × Reply :=
      match f.kind with
      | .poll =>
        match will with
        | .busy => (n, n.reply .nakBusy [] false false)
        | _ => (n, n.reply .ack [BitVec.ofNat 8 (n.offer.getD []).length] false false)
      | .identify =>
        (n.identified, n.reply .ack (leBytes 4 n.identity.toNat ++ leBytes 2 n.capability.toNat) false false)
      | .command => n.answerSend f (n.answerCommand will f)
      | .wdata => n.answerSend f (n.answerWrite will f)
      | .ropen => n.answerSend f (n.answerOpen will f)
      | .rdata => n.answerRead will f
      | .collect => n.answerCollect will f
      | .close => n.answerClose f
    (out.1, some out.2)

/-- The status byte of a reply (11 section 11.6), bits 4..7 being 0 here. -/
def Reply.status (r : Reply) : Byte :=
  BitVec.ofNat 8 (r.toggle.toNat + 2 * r.last.toNat + 4 * r.offer.toNat + 8 * r.alert.toNat)

/-- Reply kind codes (11 section 11.6). -/
def ReplyKind.code : ReplyKind → Nat
  | .ack => 9
  | .nakBusy => 10
  | .nakRefused => 11

/-- The bytes of a reply of the node at an address: header, status, payload, CRC-8 (R7). -/
def Reply.bytes (node : Node) (r : Reply) : List Byte :=
  let body := BitVec.ofNat 8 (Node.address node + 16 * r.kind.code) :: r.status :: r.payload
  body ++ [crc8 body]

/-- The bytes of a reply as the Transceiver samples them, free of errors (R1). -/
def Reply.received (node : Node) (r : Reply) : List RxByte := (Reply.bytes node r).map (fun b => ⟨b, true⟩)

/-! ## A node's check of master frames -/

/-- The frame kind of a header's kind code; the other codes name none (11 section 11.6). -/
def frameKind : Nat → Option FrameKind
  | 1 => some .poll
  | 2 => some .identify
  | 3 => some .command
  | 4 => some .wdata
  | 5 => some .ropen
  | 6 => some .rdata
  | 7 => some .collect
  | 8 => some .close
  | _ => none

/-- The master frame read from its bytes: header, control byte, payload, CRC (R5, 11 section 11.6); none when its CRC-8 is
wrong, when it is shorter than a frame, or when its header names no address or no kind. -/
def parseFrame (bytes : List Byte) : Option Frame :=
  let header := bytes.getD 0 0
  let control := bytes.getD 1 0
  if bytes.length < 3 ∨ crc8 bytes.dropLast ≠ bytes.getLastD 0 then none
  else
    match nodeOf (header &&& 0x0F), frameKind (header.toNat / 16) with
    | some node, some kind =>
      some { kind := kind, node := node, toggle := control.getLsbD 0, first := control.getLsbD 1,
             payload := (bytes.drop 2).dropLast }
    | _, _ => none

/-- What a node does with the bytes of a master frame: it ignores and does not answer one that fails its CRC check or is not
addressed to it, and sends the bytes of one reply to any other (R5, R22). -/
def NodeState.hear (n : NodeState) (will : NodeWill) (bytes : List Byte) : NodeState × Option (List Byte) :=
  match parseFrame bytes with
  | none => (n, none)
  | some f =>
    let out := n.answer will f
    (out.1, out.2.map (Reply.bytes n.address))

end Sys2Proof.Machine
end

