-- ==== Sys2Proof/Safety.lean ====
section
/-! DEFINITION. What the claims speak of: the records on their way to the host, and the invariants of the part. -/

namespace Sys2Proof.Machine

/-! ## Records on their way out -/

/-- The records line `l`'s engine has produced and the writer has not taken, oldest first: its post slot, then its owed
records (R75, R93). -/
def Line.outbox (ln : Line) : List Completion := ln.engine.slot.toList ++ ln.engine.owed.map (·.record)

/-- The records produced for the service slot and not taken, oldest first (R148). -/
def State.serviceOut (s : State) : List Completion := s.serviceSlot.toList ++ s.serviceOwed

/-- The record being written (R149). -/
def State.writing (s : State) : Option Completion := s.writer.write.map (·.record)

/-- Line `l`'s record is on its way to the completion ring: in the post slot, owed, or being written (R93, R150). -/
def State.posts (s : State) (l : LineId) (c : Completion) : Prop :=
  c ∈ (s.line l).outbox ∨ s.writing = some c

/-- A record of the service slot is on its way to the completion ring (R148, R150). -/
def State.servicePosts (s : State) (c : Completion) : Prop := c ∈ s.serviceOut ∨ s.writing = some c

/-- How many of the records are of the given type. -/
def ofType (k : CompletionType) (cs : List Completion) : Nat := cs.countP (fun c => c.type == k)

/-- The request records taken and not yet answered in the completion ring: those in the queues, and the RESULTs on their
way out (R144). -/
def State.unanswered (s : State) : Nat :=
  ((List.finRange 4).map (fun l =>
      (s.line l).engine.urgent.length + (s.line l).engine.routine.length + ofType .result (s.line l).outbox)).sum +
    ofType .result s.serviceOut + ofType .result s.writing.toList

/-- The buffer a collection of the line holds, counted (R129, R130). -/
def Line.heldBuffers (ln : Line) : Nat :=
  match ln.engine.collection with
  | some k => k.buffer.toList.length
  | none => 0

/-- The supply records taken and not yet returned in the completion ring: in the cache, held by a collection, or in an
ARRIVAL on its way out (R129). -/
def State.unreturned (s : State) : Nat :=
  s.cache.length +
    ((List.finRange 4).map (fun l => (s.line l).heldBuffers + ofType .arrival (s.line l).outbox)).sum +
    ofType .arrival s.serviceOut + ofType .arrival s.writing.toList

/-- The write of a completion record of the given type ends well with this command (R151). -/
def State.writes (s : State) (k : CompletionType) (c : Instr) : Nat :=
  if c = .completionWriteDone .ok ∧ s.serving = true then ofType k s.writing.toList else 0

/-- A record is taken from a fetched ring with this command (R144): 1 when the slot read in flight is of a ring that
`which` names. -/
def State.takes (s : State) (which : RingId → Bool) (c : Instr) : Nat :=
  match c, s.fetcher.fetch with
  | .ringReadDone (.ok _), some { ring := r, phase := .read } => if which r then 1 else 0
  | _, _ => 0

/-! ## Invariants -/

/-- The frame carries the toggle its kind takes from the entry, and no toggle where its kind carries none (R5, R14, R18). -/
def Frame.agrees (f : Frame) (e : Entry) : Prop :=
  f.toggle = ((f.kind.carriesSend && e.sendToggle) || (f.kind.carriesRecv && e.recvToggle))

/-- A line with an exchange on the wire is UP, its engine is EXCHANGING on behalf of some work, the frame is addressed to
an entry that is not BARRED and carries its toggle, and the attempts keep within the retry limit (R11, R12, R14, R18, R51,
R75). -/
def Line.wireSafe (ln : Line) (cfg : LineConfig) : Prop :=
  ln.xcvr.state ≠ .idle →
    ln.driver.state = .up ∧ ln.engine.state = .exchanging ∧ ln.engine.access = none ∧ ln.engine.purpose.isSome ∧
      (if ln.xcvr.state = .sending then ln.xcvr.garbled ≤ ln.xcvr.attempts ∧ ln.xcvr.attempts ≤ cfg.retryLimit
       else ln.xcvr.garbled < ln.xcvr.attempts ∧ ln.xcvr.attempts ≤ 1 + cfg.retryLimit) ∧
      ∃ f ∈ ln.xcvr.frame, (ln.entry f.node).state ≠ .barred ∧ f.agrees (ln.entry f.node)

/-- Every line's wire is safe (R11, R12, R51). -/
def State.wireSafe (s : State) : Prop := ∀ l, (s.line l).wireSafe (s.lineConfig l)

/-- The ring that feeds a queue of a line (R140). -/
def queueRing (l : LineId) : QueueSide → RingId
  | .urgent => ⟨l.val, by omega⟩
  | .routine => ⟨4 + l.val, by omega⟩

/-- BAD_BUFFER ARRIVALs that wait in the service owed list and hold their reserved places (R127, R148). -/
def State.badOwed (s : State) : Nat := s.serviceOwed.countP (fun c => c.code == .badBuffer)

/-- Queues and cache keep within their depths, reserved places counted, and a read in flight has its reserved place (R86,
R126, R127, R143). -/
def State.queuesBounded (s : State) : Prop :=
  (∀ l side, (s.line l).engine.places side ≤ Config.queueDepth ∧
    (s.reading (queueRing l side) = true → 1 ≤ (s.line l).engine.reserved side)) ∧
  s.cache.length + s.cacheReserved ≤ Config.cacheDepth ∧
  s.badOwed + (s.reading supplyRing).toNat ≤ s.cacheReserved

/-- The completion ring: the loaded configuration was accepted, at most its size of records is outstanding, a write in
progress has its slot, the phase follows from the producer count, and the records unannounced stay below the coalescing
count (R149, R150, R153, R154, R160). -/
def State.ringSound (s : State) : Prop :=
  (∀ c ∈ s.loaded, c.firstBadField = none) ∧
  s.outstandingCompletions ≤ s.complSize ∧
  (s.writer.write.isSome → s.outstandingCompletions < s.complSize) ∧
  s.writer.phase = phaseOf s.writer.producer.toNat s.complSize ∧
  (s.writer.unannounced = 0 ∨ s.writer.unannounced < s.coalescing) ∧
  (s.writer.holdoff.isSome → 0 < s.writer.unannounced)

/-- Whether the rest of a unit belongs to the STOP cancellation (R165). -/
def Cont.stops : Cont → Bool
  | .stopLineOff => true
  | .stopDone => true
  | _ => false

/-- What the device state says of the lines, the fetcher, the writer and the loader (R157, R162, R166, R167); in STOPPING,
that an engine in the last steps of its cancellation holds no record, no collection and no fetch, that once its LINE_OFF is
produced no LINE_UP is owed, and that an INACTIVE one owes nothing (R94, R164, R165). -/
def State.deviceSound (s : State) : Prop :=
  (s.loader.isSome ↔ s.device = .loading) ∧
  (s.device = .halted ∨ s.device = .loading →
    (∀ l, (s.line l).engine.state = .inactive ∧ (s.line l).driver.state = .off) ∧
      s.fetcher.fetch = none ∧ s.writer.write = none) ∧
  (s.device = .running → s.loaded.isSome ∧
    ∀ l, (s.line l).engine.state ≠ .inactive ∧ (s.line l).engine.state ≠ .frozen ∧
      (s.line l).engine.cont.stops = false) ∧
  (s.device = .stopping → s.loaded.isSome ∧
    ∀ l, (s.line l).engine.state ≠ .frozen ∧
      ((s.line l).engine.state = .inactive ∨ (s.line l).engine.cont = .stopDone →
        (s.line l).driver.state = .off ∧ (s.line l).engine.lineUpOwed = false) ∧
      ((s.line l).engine.cont.stops = true → ∀ o ∈ (s.line l).engine.owed, o.effect ≠ .driverFailed) ∧
      ((s.line l).engine.state = .inactive ∨ (s.line l).engine.cont.stops = true →
        (s.line l).engine.urgent = [] ∧ (s.line l).engine.routine = [] ∧ (s.line l).engine.collection = none ∧
          s.fetchingFor l = false) ∧
      ((s.line l).engine.state = .inactive → (s.line l).engine.owed = [])) ∧
  (s.device = .faulted →
    (∀ l, (s.line l).engine.state = .frozen ∧ (s.line l).driver.state = .off) ∧
      s.fetcher.fetch = none ∧ s.writer.write = none)

/-- In HALTED and LOADING every record taken has been answered and every buffer taken has been returned (R166, R168). -/
def State.accountedFor (s : State) : Prop :=
  s.device = .halted ∨ s.device = .loading → s.unanswered = 0 ∧ s.unreturned = 0

/-- The fields of an entry agree with its state: identity and capability where a node is recorded, a miss count below the
miss budget, silent misses below the drop limit, offer lengths of 1..255, and nothing recorded elsewhere (R37, R45, R47). -/
def Entry.wf (e : Entry) (cfg : LineConfig) : Prop :=
  (∀ n ∈ e.offerLength, 1 ≤ n ∧ n ≤ 255) ∧
  (e.state = .present → e.identity.isSome ∧ e.capability.isSome ∧ e.missCount < cfg.missBudget ∧ e.silentMisses = 0 ∧
    e.rejoinCheck = false) ∧
  (e.state = .silent → e.identity.isSome ∧ e.capability.isSome ∧ e.missCount = 0 ∧ e.silentMisses < cfg.dropLimit) ∧
  (e.state = .vacant ∨ e.state = .conflict ∨ e.state = .barred →
    e = { Entry.initial with state := e.state, sendToggle := e.sendToggle, recvToggle := e.recvToggle })

/-- Every entry of the Node Table is well formed (R37). -/
def State.entriesWf (s : State) : Prop := ∀ l n, ((s.line l).entry n).wf (s.lineConfig l)

/-- The Line Drivers' counts keep within their ranges: restarts left within the restart budget, rounds-since-UP within 16
(R23, R32). -/
def State.driversSound (s : State) : Prop :=
  ∀ l, (s.line l).driver.restartsLeft ≤ (s.lineConfig l).restartBudget ∧
    (s.line l).driver.roundsSinceUp ≤ Config.reloadRounds

/-- The transfer context belongs to the record at the head of the routine queue, whose fields it copies (R87, R96). -/
def Line.activeIsHead (ln : Line) : Prop :=
  ∀ t ∈ ln.engine.transfer, ∃ r ∈ ln.engine.routine.head?,
    t.tag = r.tag ∧ nodeOf r.node = some t.node ∧ t.length = r.length.toNat ∧ t.hostAddr = r.hostAddr

/-- Every line's active record is the oldest of its routine queue (R87). -/
def State.activeSound (s : State) : Prop := ∀ l, (s.line l).activeIsHead

/-- Whether an exchange of this purpose is sent to advance a turn of a round (R66, R69, R70): a POLL, an identify or probe
turn's IDENTIFY, a rejoin IDENTIFY. -/
def Purpose.isTurn : Purpose → Bool
  | .poll => true
  | .identifyTurn => true
  | .rejoin => true
  | _ => false

/-- An engine's purpose stands only while its exchange is on the wire, or in FAULTED; a collection belongs to the round in
progress, or waits for a trip to be processed; an exchange of a turn belongs to the round in progress, and it, the end of a
turn and the rest of a STOP cancellation meet no collection (R66, R67, R130, R165). -/
def Line.collectionPlaced (ln : Line) : Prop :=
  (ln.engine.collection.isSome → ln.rounds.round.isSome ∨ ln.engine.tripPending = true) ∧
  (ln.engine.purpose.isSome → ln.xcvr.state ≠ .idle ∨ ln.engine.state = .frozen) ∧
  (∀ p ∈ ln.engine.purpose, p.isTurn = true → ln.rounds.round.isSome ∧ ln.engine.collection = none) ∧
  (ln.engine.cont = .advance ∨ ln.engine.cont.stops = true → ln.engine.collection = none)

/-- Every line's collection is in its place (R67, R130). -/
def State.collectionsSound (s : State) : Prop := ∀ l, (s.line l).collectionPlaced

/-- All the invariants together. -/
structure State.Sound (s : State) : Prop where
  wire : s.wireSafe
  queues : s.queuesBounded
  ring : s.ringSound
  device : s.deviceSound
  accounted : s.accountedFor
  entries : s.entriesWf
  drivers : s.driversSound
  active : s.activeSound
  collections : s.collectionsSound

/-- Nothing is left to do within a step: no move of the part is possible (R76, R143, R148, R150, R166). -/
def State.atRest (s : State) : Prop := ∀ fresh, s.move fresh = none

end Sys2Proof.Machine
end

