-- ==== Sys2Proof/Certificates/Slice0/Obligations.lean ====
section
/-! DEFINITION. The statements for the provers: one `def Obligations.<Name> : Prop` each, listed in OBLIGATIONS.json. What a
statement says of a value the model chose is marked in its docstring with the log entry. -/

open Sys2Proof Sys2Proof.Machine

/-! ## The machine's step -/

/-- The step takes the command at the front of the queue and runs it with the queue's rest (log 1). -/
def Obligations.StepRunsTheFrontCommand : Prop :=
  ∀ (c : Instr) (rest : List Instr) (s : State),
    step { s with pending := c :: rest } = exec c { s with pending := rest }

/-- The model's choice (log 1, log 13): with no command waiting a step is one microsecond of the Time Base (R163). The stamp
and the timers move in RUNNING and STOPPING, and stand still otherwise. -/
def Obligations.IdleStepIsOneMicrosecond : Prop :=
  ∀ s : State, s.pending = [] →
    (s.device ≠ .running ∧ s.device ≠ .stopping → step s = .next s) ∧
    (s.device = .running ∨ s.device = .stopping →
      ∃ t, step s = .next t ∧
        t = { s with stamp := s.stamp + 1, writer := { s.writer with holdoff := s.writer.holdoff.map (· - 1) },
                     lines := t.lines } ∧
        ∀ l, t.line l = { s.line l with
          driver := { (s.line l).driver with
            settle := (s.line l).driver.settle.map (· - 1), cooldown := (s.line l).driver.cooldown.map (· - 1) },
          xcvr := { (s.line l).xcvr with window := (s.line l).xcvr.window.map (· - 1) },
          rounds := { (s.line l).rounds with pollTimer := (s.line l).rounds.pollTimer.map (· - 1) },
          engine := { (s.line l).engine with
            urgentDeadline := (s.line l).engine.urgentDeadline.map (· - 1),
            transfer := (s.line l).engine.transfer.map (fun t => { t with deadline := t.deadline.map (· - 1) }) } })

/-- Every command runs in every state: no command of the part faults or is refused, and none touches the queue of waiting
commands (log 1, log 19). -/
def Obligations.EveryCommandCompletes : Prop :=
  ∀ (c : Instr) (s : State), ∃ t, exec c s = .next t ∧ t.pending = s.pending

/-- The configuration and the enables change only by the commands that the rules name: CONFIG_BASE and
INT_ENABLE by a REGISTER_WRITE (R171), the loaded configuration by an accepted load (R160, R162), all of them by power-on
(R168); and an INT_STATUS bit is cleared only by a write to INT_STATUS, RESET or power-on (R155). -/
def Obligations.RegistersChangeOnlyByTheirCommands : Prop :=
  ∀ (c : Instr) (s t : State), c ≠ .powerOn → exec c s = .next t →
    ((∀ offset size value, c ≠ .registerWrite offset size value) →
      t.configBaseLo = s.configBaseLo ∧ t.configBaseHi = s.configBaseHi ∧ t.intEnable = s.intEnable) ∧
    ((∀ read, c ≠ .configReadDone read) → t.loaded = s.loaded) ∧
    ((∀ offset size value, c ≠ .registerWrite offset size value) → (∀ value, c ≠ .intStatusWrite value) →
      c ≠ .reset → t.intStatus &&& s.intStatus = s.intStatus)

/-! ## Invariants -/

/-- The state after reset meets every invariant. -/
def Obligations.ResetIsSound : Prop := State.reset.Sound

/-- Every step keeps the wire safe: a frame is on a line's wire only while the line is UP and its engine is EXCHANGING, it
is addressed to an entry that is not BARRED, it carries that entry's toggle, and the attempts keep within 1 plus the retry
limit (R11, R12, R14, R18, R51). -/
def Obligations.StepKeepsWireSafe : Prop := ∀ s t, s.Sound → step s = .next t → t.wireSafe

/-- Every step keeps queues and cache within their depths, reserved places counted (R86, R126, R127, R143). -/
def Obligations.StepKeepsQueuesBounded : Prop := ∀ s t, s.Sound → step s = .next t → t.queuesBounded

/-- Every step keeps the completion ring: at most its size outstanding, a write in progress has its slot, the phase follows
from the producer count, and the unannounced records stay below the coalescing count (R149, R150, R153, R154). -/
def Obligations.StepKeepsCompletionRing : Prop := ∀ s t, s.Sound → step s = .next t → t.ringSound

/-- Every step keeps what the device state says of lines, fetcher, writer and loader (R157, R164, R165, R167). -/
def Obligations.StepKeepsDeviceState : Prop := ∀ s t, s.Sound → step s = .next t → t.deviceSound

/-- Every step keeps it so that in HALTED and LOADING every record taken has been answered and every buffer taken returned
(R166, R168). -/
def Obligations.StepLeavesNothingTakenInHalted : Prop := ∀ s t, s.Sound → step s = .next t → t.accountedFor

/-- Every step keeps the Node Table entries well formed: the miss count of a PRESENT entry below the miss budget, the silent
misses of a SILENT one below the drop limit, nothing recorded elsewhere; and the drivers' counts, restarts left within the
restart budget and rounds-since-UP within 16 (R23, R32, R37, R45, R47, R50). -/
def Obligations.StepKeepsEntriesAndDrivers : Prop :=
  ∀ s t, s.Sound → step s = .next t → t.entriesWf ∧ t.driversSound

/-- Every step keeps the active record the oldest of its routine queue, with the fields its context copied (R87, R96); and a
collection in its place: within a round in progress or waiting for a trip to be processed, and never
beside an exchange of a turn (R67, R130, R165). -/
def Obligations.StepKeepsContextsPlaced : Prop :=
  ∀ s t, s.Sound → step s = .next t → t.activeSound ∧ t.collectionsSound

/-! ## Rules of the whole machine -/

/-- A node entry's toggles change only by a VALID ACK from that node: the send toggle inverts with a COMMAND, WDATA or ROPEN,
the receive toggle with an RDATA or COLLECT, and an IDENTIFY sets both to 0 (R14, R17, R18). Power-on is apart: it sets
every toggle to 0. -/
def Obligations.TogglesChangeOnlyByAValidAck : Prop :=
  ∀ (c : Instr) (s t : State), s.Sound → c ≠ .powerOn → exec c s = .next t → ∀ (l : LineId) (n : Node),
    let e := (s.line l).entry n
    let e' := (t.line l).entry n
    (∀ rx f r, c = .endOfReply l rx → (s.line l).xcvr.state = .receiving → (s.line l).xcvr.frame = some f →
      f.node = n → judge f rx = some r → r.kind = .ack →
        e'.sendToggle = (if f.kind = .identify then false else if f.kind.carriesSend then !e.sendToggle
          else e.sendToggle) ∧
        e'.recvToggle = (if f.kind = .identify then false else if f.kind.carriesRecv then !e.recvToggle
          else e.recvToggle)) ∧
    (e'.sendToggle ≠ e.sendToggle ∨ e'.recvToggle ≠ e.recvToggle →
      ∃ rx f r, c = .endOfReply l rx ∧ (s.line l).xcvr.state = .receiving ∧ (s.line l).xcvr.frame = some f ∧
        f.node = n ∧ judge f rx = some r ∧ r.kind = .ack)

/-- Every request record taken is answered once: a command that takes a record from a request ring adds one to the records
unanswered, the end of the write of a RESULT takes one away, and nothing else changes their number, but for RESET, power-on
and entry to FAULTED (R144). -/
def Obligations.RequestsAreAnsweredOnce : Prop :=
  ∀ (c : Instr) (s t : State), s.Sound → c.wellFormed = true → c ≠ .powerOn → c ≠ .reset →
    c ≠ .completionWriteDone .busError → exec c s = .next t →
      t.unanswered + s.writes .result c = s.unanswered + s.takes (fun r => r.val < 8) c

/-- Every supply record taken is returned once: a command that takes one adds one to the buffers unreturned, the end of the
write of an ARRIVAL takes one away, and nothing else changes their number, but for RESET, power-on and entry to FAULTED
(R129). -/
def Obligations.BuffersAreReturnedOnce : Prop :=
  ∀ (c : Instr) (s t : State), s.Sound → c.wellFormed = true → c ≠ .powerOn → c ≠ .reset →
    c ≠ .completionWriteDone .busError → exec c s = .next t →
      t.unreturned + s.writes .arrival c = s.unreturned + s.takes (fun r => r = supplyRing) c

/-- The records of one engine reach the writer in the order the engine produced them: a command only adds records behind
those on their way, and takes at most the oldest, which is then the record being written; the record being written stays
until its write ends. The same holds for the service slot (R93, R148, R151). -/
def Obligations.RecordsKeepTheirOrder : Prop :=
  ∀ (c : Instr) (s t : State), s.Sound → c.wellFormed = true → c ≠ .powerOn → c ≠ .reset →
    (∀ read, c ≠ .configReadDone read) → exec c s = .next t →
      (∀ l, ∃ more, (s.line l).outbox ++ more = (t.line l).outbox ∨
        ∃ a, (s.line l).outbox ++ more = a :: (t.line l).outbox ∧ t.writing = some a) ∧
      (∃ more, s.serviceOut ++ more = t.serviceOut ∨
        ∃ a, s.serviceOut ++ more = a :: t.serviceOut ∧ t.writing = some a) ∧
      ((∀ write, c ≠ .completionWriteDone write) → s.writer.write.isSome → t.writer.write = s.writer.write)

/-- What follows within a step (R76, R95, R143, R148, R150, R166) leaves alone what no rule of it names: the stamp, the error
fields, the registers, the loaded configuration, the rings' indices and flags, the writer's counts and phase, every toggle;
it sets causes and clears none; it changes the device state only from STOPPING to HALTED; and on a line whose engine is
EXCHANGING it can only empty the post slot and reserve places in the queues. -/
def Obligations.WhatFollowsLeavesTheRest : Prop :=
  ∀ before s : State,
    let t := State.settleFrom before s
    t = { s with
      device := t.device, intStatus := t.intStatus, fetcher := t.fetcher, cache := t.cache,
      cacheReserved := t.cacheReserved, serviceSlot := t.serviceSlot, serviceOwed := t.serviceOwed,
      writer := { s.writer with
        unannounced := t.writer.unannounced, holdoff := t.writer.holdoff, pointer := t.writer.pointer,
        write := t.writer.write },
      lines := t.lines, freeCount := t.freeCount } ∧
    (t.device = s.device ∨ s.device = .stopping ∧ t.device = .halted) ∧
    t.intStatus &&& s.intStatus = s.intStatus ∧
    (∀ b ∈ t.cache, b ∈ s.cache) ∧
    (∀ l n, ((t.line l).entry n).sendToggle = ((s.line l).entry n).sendToggle ∧
      ((t.line l).entry n).recvToggle = ((s.line l).entry n).recvToggle) ∧
    ∀ l, (s.line l).engine.state = .exchanging →
      ∃ slot u r, (slot = (s.line l).engine.slot ∨ slot = none) ∧
        t.line l = { s.line l with engine := { (s.line l).engine with
          slot := slot, urgentReserved := u, routineReserved := r } }

/-! ## Device control -/

/-- The command table of CONTROL (R158): which command is taken in which state. START begins the load: LOADING, the block
address taken from CONFIG_BASE, the error fields cleared (R159). A refused command changes nothing but an error code of NONE,
which becomes CMD_REFUSED. CONTROL reads 0. -/
def Obligations.ControlCommandTable : Prop :=
  ∀ s : State,
    let refused := { s with error := if s.error = .none then .cmdRefused else s.error }
    (s.device = .halted → exec .start s = .next { s with
      device := .loading, error := .none, errorField := 0,
      loader := some { base := s.configBaseHi ++ s.configBaseLo, copy := [], failed := false } }) ∧
    (s.device ≠ .halted → exec .start s = .next refused) ∧
    (s.device = .halted ∨ s.device = .faulted → exec .stop s = .next refused) ∧
    (s.device = .loading → ∃ t, exec .stop s = .next t ∧ t.device = .halted ∧ t.loader = none) ∧
    (s.device = .running → ∃ u, u.device = .stopping ∧ exec .stop s = .next (s.settleFrom u)) ∧
    (s.device = .stopping → exec .stop s = .next s) ∧
    (∃ t, exec .reset s = .next t ∧ t.device = .halted) ∧
    exec .controlNoCommand s = .next refused ∧
    s.readWord 0x04 = some 0

/-- STOP in RUNNING: the device leaves RUNNING, the cache is empty, and every record it held is on its way back in an ARRIVAL
CANCELLED of line 0, node 0 and count 0; no tail, consumer index, toggle or loaded value changes (R138, R147, R164). STOP in
LOADING abandons the load (R161); that it also clears a CMD_REFUSED is read from R161 (log 15), and the list that holds the
read given up until it ends is the model's choice (log 11). -/
def Obligations.StopReturnsTheCache : Prop :=
  ∀ s : State,
    let back := fun (b : SupplyRecord) =>
      ({ type := .arrival, line := 0, code := .cancelled, node := 0, tag := 0, count := 0, detail := b.id } : Completion)
    (s.device = .running →
      exec .stop s = .next (s.settleFrom { s with
        device := .stopping, cache := [], serviceOwed := s.serviceOwed ++ s.cache.map back }) ∧
      ∃ t, exec .stop s = .next t ∧ (t.device = .stopping ∨ t.device = .halted) ∧ t.cache = [] ∧
        (∀ b ∈ s.cache, t.servicePosts (back b)) ∧
        t.rings = s.rings ∧ t.fetcher = s.fetcher ∧ t.loaded = s.loaded ∧ t.stamp = s.stamp ∧ t.error = s.error ∧
        ∀ l n, ((t.line l).entry n).sendToggle = ((s.line l).entry n).sendToggle ∧
          ((t.line l).entry n).recvToggle = ((s.line l).entry n).recvToggle) ∧
    (s.device = .loading →
      exec .stop s = .next { s with
        device := .halted, error := .none, errorField := 0, loader := none,
        intStatus := s.intStatus ||| 2#4, discarding := s.discarding ++ [.configRead] })

/-- POWER_ON gives every register, ring, queue, entry and line its power-on value; the count of free choices and the queue of
waiting commands are the model's own and go on (R168, log 1, log 5). RESET in every state: HALTED; CONFIG_BASE, INT_ENABLE
and the loaded configuration kept; everything else at its power-on value, the entries VACANT (R37, R38, R168). The model's
choices in it: the values that the spec does not state (the Transceiver's counts and window, the engine's purpose, access,
rest of a unit and cut-off note) are log 6; that RESET keeps the toggles of the entries is log 25; that what is on the bus
stands in a list until it ends is log 11. -/
def Obligations.PowerOnAndResetEmptyThePart : Prop :=
  ∀ s : State,
    exec .powerOn s = .next { State.reset with freeCount := s.freeCount, pending := s.pending } ∧
    ∃ t, exec .reset s = .next t ∧
    t = { State.reset with
      configBaseLo := s.configBaseLo, configBaseHi := s.configBaseHi, intEnable := s.intEnable, loaded := s.loaded,
      lines := t.lines, discarding := s.discarding ++ s.onBus, freeCount := s.freeCount, pending := s.pending } ∧
    ∀ l, (t.line l).driver = { state := .off, restartsLeft := 0, roundsSinceUp := 0, settle := none, cooldown := none } ∧
      (t.line l).xcvr.state = .idle ∧ (t.line l).xcvr.frame = none ∧
      (t.line l).rounds = Rounds.initial ∧ (t.line l).engine = Engine.initial .inactive ∧
      ∀ n, (t.line l).entry n = { Entry.initial with
        sendToggle := ((s.line l).entry n).sendToggle, recvToggle := ((s.line l).entry n).recvToggle }

/-- CONFIG_READ_DONE in LOADING: before the last read the bytes join the working copy, or the load is marked failed, and
the device goes on LOADING, its next read at the address behind those bytes, the first at the block address (R159). At the
last read, a load in which a read ended in a bus error, or whose block passes the top of the address space, ends in HALTED
with LOAD_BUS_ERROR; one with a bad field in HALTED with CONFIG_RANGE and the index of the first; the loaded configuration
is kept and state_change is set (R159, R160). The model's reading (log 12): a read may have any size, a failed one counts
as the bytes it was to bring, filled with zero bytes in a copy that is then not used, and the load goes on to its last
read; a block that passes the top of the address space ends as LOAD_BUS_ERROR. -/
def Obligations.LoadReadsTheBlock : Prop :=
  ∀ (s : State) (ld : Loader) (data : List Byte) (n : Nat), s.device = .loading → s.loader = some ld →
    let halted := fun (code : ErrorCode) (i : BitVec 8) =>
      { s with device := .halted, loader := none, error := code, errorField := i, intStatus := s.intStatus ||| 2#4 }
    s.configRead = some (ld.base + BitVec.ofNat 64 ld.copy.length) ∧
    (ld.copy.length + data.length < 240 →
      let t := { s with loader := some { ld with copy := ld.copy ++ data } }
      exec (.configReadDone (.ok data)) s = .next t ∧
        t.configRead = some (ld.base + BitVec.ofNat 64 (ld.copy.length + data.length))) ∧
    (ld.copy.length + n < 240 →
      exec (.configReadDone (.busError n)) s =
        .next { s with loader := some { ld with copy := ld.copy ++ List.replicate n 0, failed := true } }) ∧
    (240 ≤ ld.copy.length + n →
      exec (.configReadDone (.busError n)) s = .next (halted .loadBusError 0)) ∧
    (240 ≤ ld.copy.length + data.length → ld.failed = true ∨ 2 ^ 64 < ld.base.toNat + 240 →
      exec (.configReadDone (.ok data)) s = .next (halted .loadBusError 0)) ∧
    (240 ≤ ld.copy.length + data.length → ld.failed = false → ld.base.toNat + 240 ≤ 2 ^ 64 → ∀ i,
      (LoadedConfig.ofBytes ((ld.copy ++ data).take 240)).firstBadField = some i →
        exec (.configReadDone (.ok data)) s = .next (halted .configRange (BitVec.ofNat 8 i)))

/-- The last read of a block with no bad field: the device is RUNNING with the accepted configuration loaded and every block
at its starting value: every entry is VACANT with nothing recorded; lines enabled at start are SETTLING, the others OFF (R10,
R24, R38, R59, R75, R160, R162). The Transceiver's counts and window and the engine's purpose, access, rest of a unit and
cut-off note have the values of log 6, the model's choice; that the entries keep their toggles is the model's reading (log
25). -/
def Obligations.AcceptedBlockStartsThePart : Prop :=
  ∀ (s : State) (ld : Loader) (data : List Byte), s.device = .loading → s.loader = some ld → ld.failed = false →
    ld.base.toNat + 240 ≤ 2 ^ 64 → 240 ≤ ld.copy.length + data.length →
    let cfg := LoadedConfig.ofBytes ((ld.copy ++ data).take 240)
    cfg.firstBadField = none →
      ∃ t, exec (.configReadDone (.ok data)) s = .next t ∧
        t = { s with
          device := .running, loader := none, loaded := some cfg, intStatus := s.intStatus ||| 2#4, complConsumed := 0,
          stamp := 0, rings := t.rings, fetcher := { pointer := 8, fetch := none }, cache := [], cacheReserved := 0,
          serviceSlot := none, serviceOwed := [],
          writer := { producer := 0, consumed := 0, phase := true, unannounced := 0, holdoff := none, pointer := 4,
                      write := none },
          lines := t.lines } ∧
        (∀ r, t.ring r = { tail := 0, consumer := 0, broken := false }) ∧
        ∀ l, (t.line l).driver =
            (if (cfg.lines.get l).enabledAtStart then
              { state := .settling, restartsLeft := (cfg.lines.get l).restartBudget, roundsSinceUp := 0,
                settle := some (1000 * (cfg.lines.get l).settleTime), cooldown := none }
             else { state := .off, restartsLeft := (cfg.lines.get l).restartBudget, roundsSinceUp := 0, settle := none,
                    cooldown := none }) ∧
          (t.line l).xcvr = Transceiver.initial ∧ (t.line l).rounds = Rounds.initial ∧
          (t.line l).engine = Engine.initial .idle ∧
          ∀ n,
            let e := (s.line l).entry n
            (t.line l).entry n =
              { state := .vacant, identity := none, capability := none, sendToggle := e.sendToggle,
                recvToggle := e.recvToggle, missCount := 0, silentMisses := 0, offerLength := none, alert := false,
                rejoinCheck := false }

/-- The end of an access whose result is to be discarded changes nothing but the list of such accesses (R147, R161, R168;
log 11). -/
def Obligations.DiscardedAccessesChangeNothingElse : Prop :=
  ∀ (s : State) (l : LineId),
    let without := fun (a : BusAccess) => { s with discarding := s.discarding.erase a }
    exec (.configReadDone .discarded) s = .next (without .configRead) ∧
    exec (.ringReadDone .discarded) s = .next (without .ringRead) ∧
    exec (.progressWriteDone .discarded) s = .next (without .progressWrite) ∧
    exec (.segmentReadDone l .discarded) s = .next (without (.segmentRead l)) ∧
    exec (.responseWriteDone l .discarded) s = .next (without (.responseWrite l)) ∧
    exec (.fetchSegmentWriteDone l .discarded) s = .next (without (.fetchWrite l)) ∧
    exec (.collectSegmentWriteDone l .discarded) s = .next (without (.collectWrite l)) ∧
    exec (.completionWriteDone .discarded) s = .next (without .completionWrite)

/-! ## Register window -/

/-- POST (R142): taken in RUNNING when the ring exists, the tail is below its size and no record is withdrawn; then the
ring's tail is the one named and no other ring changes. Any other post is ignored with post_error. -/
def Obligations.PostReplacesTheTail : Prop :=
  ∀ (s : State) (value : Word),
    let tail := (value.extractLsb' 16 10).toNat
    (∀ r : RingId, (value.extractLsb' 0 4).toNat = r.val → s.device = .running → tail < s.ringSize r →
      s.outstanding r ≤ s.outstandingTo r tail →
        ∃ t, exec (.post value) s = .next t ∧ t.ring r = { s.ring r with tail := tail } ∧
          (∀ r', r' ≠ r → t.ring r' = s.ring r') ∧ t.intStatus = s.intStatus) ∧
    ((∀ r : RingId, (value.extractLsb' 0 4).toNat = r.val → s.device = .running → tail < s.ringSize r →
        s.outstandingTo r tail < s.outstanding r) →
      exec (.post value) s = .next { s with intStatus := s.intStatus ||| 8#4 })

/-- A post that is taken while no fetch is in progress: the fetcher begins a fetch from the first eligible ring after its
pointer, if there is one, with the pointer on it, its slot read in flight and one more place reserved in its destination;
with a fetch in progress, or with no eligible ring, the fetcher does nothing (R143). -/
def Obligations.PostStartsTheNextFetch : Prop :=
  ∀ (s : State) (value : Word) (r : RingId), (value.extractLsb' 0 4).toNat = r.val → s.device = .running →
    (value.extractLsb' 16 10).toNat < s.ringSize r →
    s.outstanding r ≤ s.outstandingTo r (value.extractLsb' 16 10).toNat →
    let s' := s.setRing r { s.ring r with tail := (value.extractLsb' 16 10).toNat }
    (s.fetcher.fetch.isSome → exec (.post value) s = .next s') ∧
    ((∀ q, s'.eligible q = false) → exec (.post value) s = .next s') ∧
    (s.fetcher.fetch = none → ∀ k : Nat, k < 9 →
      (∀ j, j < k → s'.eligible ⟨(s.fetcher.pointer.val + 1 + j) % 9, Nat.mod_lt _ (by decide)⟩ = false) →
      let q : RingId := ⟨(s.fetcher.pointer.val + 1 + k) % 9, Nat.mod_lt _ (by decide)⟩
      s'.eligible q = true →
        ∃ t, exec (.post value) s = .next t ∧ t.fetcher = { pointer := q, fetch := some { ring := q, phase := .read } } ∧
          t.rings = s'.rings ∧
          (∀ l side, (t.line l).engine.reserved side =
            (s.line l).engine.reserved side + (if ringTarget q = some (l, side) then 1 else 0)) ∧
          t.cacheReserved = s.cacheReserved + (if q = supplyRing then 1 else 0))

/-- COMPL_CONSUMED (R152): outside RUNNING and STOPPING the write is ignored; an index at or above the ring size, or an
advance past the outstanding completions, is ignored with post_error; an advance of 0 changes nothing; any other moves the
consumed count and the register, and what follows follows. -/
def Obligations.ComplConsumedAdvances : Prop :=
  ∀ (s : State) (value : Word),
    let c := (value.extractLsb' 0 10).toNat
    let a := (c + s.complSize - s.writer.consumed.toNat % s.complSize) % s.complSize
    let serving := s.device = .running ∨ s.device = .stopping
    (¬serving → exec (.complConsumed value) s = .next s) ∧
    (serving → s.complSize ≤ c ∨ s.outstandingCompletions < a →
      exec (.complConsumed value) s = .next { s with intStatus := s.intStatus ||| 8#4 }) ∧
    (serving → c < s.complSize → a = 0 → exec (.complConsumed value) s = .next s) ∧
    (serving → c < s.complSize → a ≠ 0 → a ≤ s.outstandingCompletions →
      exec (.complConsumed value) s = .next (s.settleFrom { s with
        complConsumed := BitVec.ofNat 10 c, writer := { s.writer with consumed := s.writer.consumed + BitVec.ofNat 16 a } }))

/-- INT_STATUS_WRITE clears every cause bit written as 1 and changes nothing else (R155, R171). -/
def Obligations.IntStatusWriteClears : Prop :=
  ∀ (s : State) (value : Word), ∃ t, exec (.intStatusWrite value) s = .next t ∧
    t = { s with intStatus := t.intStatus } ∧
    ∀ i : Nat, i < 4 → t.intStatus.getLsbD i = (s.intStatus.getLsbD i && !value.getLsbD i)

/-- REGISTER_WRITE (R171): CONFIG_BASE and INT_ENABLE take a 32-bit write; DEV_ID, STATUS and offsets 24h..3Fh ignore it; a
narrower write is ignored at any offset. A 32-bit write to the command registers is the row it names (11 section 11.5); one
at an offset that is no multiple of 4 is not stated and ignored (log 16). A read at 24h..3Fh returns 0 at any width; below,
a 32-bit read returns the register, and a narrower read at any offset the addressed bytes of the register as a 32-bit read
would (R171). -/
def Obligations.RegisterWriteByOffset : Prop :=
  ∀ (s : State) (value : Word),
    exec (.registerWrite 0x0C#6 .word value) s = .next { s with configBaseLo := value } ∧
    exec (.registerWrite 0x10#6 .word value) s = .next { s with configBaseHi := value } ∧
    exec (.registerWrite 0x20#6 .word value) s = .next { s with intEnable := value.extractLsb' 0 4 } ∧
    (∀ offset : BitVec 6, offset = 0x00#6 ∨ offset = 0x08#6 ∨ 0x24#6 ≤ offset ∨ offset.toNat % 4 ≠ 0 →
      exec (.registerWrite offset .word value) s = .next s) ∧
    (∀ offset, exec (.registerWrite offset .three value) s = .next s ∧
      exec (.registerWrite offset .half value) s = .next s ∧ exec (.registerWrite offset .byte value) s = .next s) ∧
    exec (.registerWrite 0x04#6 .word value) s = exec (controlCommand value) s ∧
    exec (.registerWrite 0x14#6 .word value) s = exec (.post value) s ∧
    exec (.registerWrite 0x18#6 .word value) s = exec (.complConsumed value) s ∧
    exec (.registerWrite 0x1C#6 .word value) s = exec (.intStatusWrite value) s ∧
    ∀ offset : BitVec 6,
      let register := s.readWord (offset.toNat / 4 * 4)
      let shifted := fun (mask : Word) => register.map (fun (w : Word) => (w >>> (8 * (offset.toNat % 4))) &&& mask)
      (0x24#6 ≤ offset → ∀ size, s.readWindow offset size = some 0) ∧
      (offset < 0x24#6 → offset.toNat % 4 = 0 → s.readWindow offset .word = register) ∧
      (offset < 0x24#6 → s.readWindow offset .byte = shifted 0xFF) ∧
      (offset < 0x24#6 → offset.toNat % 4 ≤ 2 → s.readWindow offset .half = shifted 0xFFFF) ∧
      (offset < 0x24#6 → offset.toNat % 4 ≤ 1 → s.readWindow offset .three = shifted 0xFFFFFF)

/-- What STATUS shows, field by field: the state and the error code by their numbers; backpressure, 1 exactly when the
outstanding completions, the producer count minus the consumed count modulo 65536, equal the size of the completion ring; the
error field index; the broken-ring mask; the unused bits 0 (11 section 11.5, R140, R146, R149, R153, R157). That backpressure
reads 0 while no configuration is loaded, and so no ring is there, is the model's reading (log 26). -/
def Obligations.StatusShowsTheDevice : Prop :=
  ∀ (s : State), ∃ w, s.readWord 0x08 = some w ∧
    w.extractLsb' 0 3 = (match s.device with
      | .halted => 0#3
      | .loading => 1#3
      | .running => 2#3
      | .stopping => 3#3
      | .faulted => 4#3) ∧
    w.getLsbD 3 = false ∧
    w.extractLsb' 4 3 = (match s.error with
      | .none => 0#3
      | .cmdRefused => 1#3
      | .configRange => 2#3
      | .loadBusError => 3#3
      | .completionBusError => 4#3) ∧
    (∀ c, s.loaded = some c →
      (w.getLsbD 7 = true ↔ (s.writer.producer - s.writer.consumed).toNat = 2 ^ (c.rings.get 9).exponent)) ∧
    (s.loaded = none → w.getLsbD 7 = false) ∧
    w.extractLsb' 8 8 = s.errorField ∧
    (∀ r : RingId, w.getLsbD (16 + r.val) = (s.ring r).broken) ∧
    w.extractLsb' 25 7 = 0#7

/-! ## Line power and timers -/

/-- SETTLE_TIMER_EXPIRY on a SETTLING line: the driver goes to UP with rounds-since-UP 0, the round state takes the values of
entry to UP, and the engine owes LINE_UP; an engine that is IDLE is then at a boundary (R25, R59, R76).
COOLDOWN_TIMER_EXPIRY on a line in COOLDOWN applies the supply: SETTLING with the settle timer started; restarts left is kept
and nothing else changes (R31). In another driver state, or in a device that does not run, neither can occur and neither
does anything (log 4). -/
def Obligations.SettleAndCooldownExpiry : Prop :=
  ∀ (s : State) (l : LineId),
    let ln := s.line l
    let up := { ln with
      driver := { ln.driver with state := .up, roundsSinceUp := 0, settle := none },
      rounds := { ln.rounds with
        pollTimer := some (10000 * (s.lineConfig l).pollPeriod), pending := true, discovery := true, number := 0,
        cursor := 11 },
      engine := { ln.engine with lineUpOwed := true } }
    let serving := s.device = .running ∨ s.device = .stopping
    (serving → ln.driver.state = .settling → ln.engine.state ≠ .idle →
      exec (.settleTimerExpiry l) s = .next (s.setLine l up)) ∧
    (serving → ln.driver.state = .settling → ln.engine.state = .idle →
      exec (.settleTimerExpiry l) s = .next (s.settleFrom (s.setLine l up))) ∧
    (¬(serving ∧ ln.driver.state = .settling) → exec (.settleTimerExpiry l) s = .next s) ∧
    (serving → ln.driver.state = .cooldown →
      exec (.cooldownTimerExpiry l) s = .next (s.setLine l { ln with
        driver := { ln.driver with
          state := .settling, settle := some (1000 * (s.lineConfig l).settleTime), cooldown := none } })) ∧
    (¬(serving ∧ ln.driver.state = .cooldown) → exec (.cooldownTimerExpiry l) s = .next s)

/-- OVERCURRENT_TRIP in SETTLING or UP gives the line this whole contents: the driver is TRIPPED with its settle timer stopped
and a trip waits for the engine; a line that was UP leaves UP (poll timer stopped, mark cleared, round and rejoin abandoned,
backoffs ended, a collection without a buffer dropped); an exchange on the wire ends with the Transceiver IDLE and the engine
with no exchange, an urgent SEND or PROBE being noted as cut off; everything else of the line is untouched (R13, R26, R27,
R29). The result handed to the engine is FAILED with cause TRIP and keeps the counts of the attempts already finished; that
the attempt under way is not among them is read from R13 (log 28). An engine that is then IDLE is at a boundary. -/
def Obligations.TripRemovesTheSupply : Prop :=
  ∀ (s : State) (l : LineId), s.Sound → s.device = .running ∨ s.device = .stopping →
    (s.line l).driver.state = .settling ∨ (s.line l).driver.state = .up →
    let ln := s.line l
    let tripped : Line := { ln with
      driver := { ln.driver with state := .tripped, settle := none },
      engine := { ln.engine with tripPending := true } }
    let left : Line :=
      if ln.driver.state = .up then
        { tripped with
          rounds := { ln.rounds with pollTimer := none, pending := false, round := none, rejoin := none },
          engine := { tripped.engine with
            urgentDeadline := none, transfer := ln.engine.transfer.map (fun t => { t with deadline := none }),
            collection := ln.engine.collection.filter (fun k => k.buffer.isSome) } }
      else tripped
    let after : Line :=
      if ln.xcvr.state = .idle then left
      else
        { left with
          xcvr := { state := .idle, frame := none, attempts := 0, garbled := 0, window := none },
          engine := { left.engine with
            state := .idle, purpose := none, access := none, cont := .boundary,
            cutOff := ln.engine.cutOff || ln.engine.purpose == some .urgentSend ||
              ln.engine.purpose == some .urgentProbe } }
    exec (.overcurrentTrip l) s =
        .next (if after.engine.state = .idle then s.settleFrom (s.setLine l after) else s.setLine l after) ∧
      (ln.xcvr.state ≠ .idle →
        let res := ln.xcvr.cutOffResult
        after = left.exchangeEnd { line := l, cfg := s.lineConfig l } res ∧ res.reply = none ∧ res.cause = .trip ∧
          res.garbled = ln.xcvr.garbled ∧
          res.attempts = (if ln.xcvr.state = .sending then ln.xcvr.attempts else ln.xcvr.attempts - 1))

/-- After an OVERCURRENT_TRIP on a line with no trip waiting and no LINE_FAILED owed, met within no unit, the line is not UP
and nothing is on its wire; and either the trip still waits, with the driver TRIPPED, or LINE_TRIPPED with the restarts left
is on its way to the completion ring (R12, R26, R28, R29). -/
def Obligations.TripIsReported : Prop :=
  ∀ (s : State) (l : LineId), s.Sound → s.device = .running ∨ s.device = .stopping →
    (s.line l).driver.state = .settling ∨ (s.line l).driver.state = .up →
    (s.line l).engine.tripPending = false → (s.line l).engine.cont = .boundary →
    (∀ o ∈ (s.line l).engine.owed, o.effect ≠ .driverFailed) →
      ∃ t, exec (.overcurrentTrip l) s = .next t ∧ (t.line l).driver.state ≠ .up ∧ (t.line l).xcvr.state = .idle ∧
        ((t.line l).engine.tripPending = true ∧ (t.line l).driver.state = .tripped ∨
          t.posts l { type := .event, line := l, code := .lineTripped, node := 0, tag := 0, count := 0,
                      detail := BitVec.ofNat 32 (s.line l).driver.restartsLeft })

/-- POLL_TIMER_EXPIRY sets the pending-round mark and starts the period again; an engine that is IDLE is then at a boundary
(R60, R61, R76). Where the timer is stopped it cannot occur and does nothing (log 4). -/
def Obligations.PollExpiryMarksARound : Prop :=
  ∀ (s : State) (l : LineId),
    let ln := s.line l
    let owed := { ln with rounds := { ln.rounds with
      pending := true, pollTimer := some (10000 * (s.lineConfig l).pollPeriod) } }
    let runs := (s.device = .running ∨ s.device = .stopping) ∧ ln.rounds.pollTimer.isSome
    (runs → ln.engine.state ≠ .idle → exec (.pollTimerExpiry l) s = .next (s.setLine l owed)) ∧
    (runs → ln.engine.state = .idle → exec (.pollTimerExpiry l) s = .next (s.settleFrom (s.setLine l owed))) ∧
    (¬runs → exec (.pollTimerExpiry l) s = .next s)

/-- BUSY_BACKOFF_EXPIRY: the step at the head of the named queue is no longer in backoff, and nothing else changes; an engine
that is IDLE is then at a boundary (R76, R84). Where no backoff runs the expiry cannot occur and does nothing (the model's
choice, log 4). -/
def Obligations.BackoffExpiryFreesTheHead : Prop :=
  ∀ (s : State) (l : LineId), s.device = .running ∨ s.device = .stopping →
    let ln := s.line l
    let after := fun (freed : Line) =>
      if ln.engine.state = .idle then s.settleFrom (s.setLine l freed) else s.setLine l freed
    (ln.engine.urgentDeadline.isSome →
      exec (.busyBackoffExpiry l .urgent) s =
        .next (after { ln with engine := { ln.engine with urgentDeadline := none } })) ∧
    (ln.engine.urgentDeadline = none → exec (.busyBackoffExpiry l .urgent) s = .next s) ∧
    (∀ t, ln.engine.transfer = some t → t.deadline.isSome →
      exec (.busyBackoffExpiry l .routine) s =
        .next (after { ln with engine := { ln.engine with transfer := some { t with deadline := none } } })) ∧
    ((∀ t, ln.engine.transfer = some t → t.deadline = none) → exec (.busyBackoffExpiry l .routine) s = .next s)

/-- HOLDOFF_EXPIRY with records unannounced makes an announcement: the completion cause is set, the unannounced count is 0
and the timer stops (R154). Where the timer is stopped the expiry cannot occur and does nothing, and one that finds no record
unannounced only stops the timer (the model's choice, log 4). -/
def Obligations.HoldoffExpiryAnnounces : Prop :=
  ∀ s : State,
    (s.writer.holdoff.isSome → 0 < s.writer.unannounced →
      exec .holdoffExpiry s = .next { s with
        intStatus := s.intStatus ||| 1#4, writer := { s.writer with unannounced := 0, holdoff := none } }) ∧
    (s.writer.holdoff.isSome → s.writer.unannounced = 0 →
      exec .holdoffExpiry s = .next { s with writer := { s.writer with holdoff := none } }) ∧
    (s.writer.holdoff = none → exec .holdoffExpiry s = .next s)

/-! ## The wire -/

/-- FRAME_SENT in SENDING counts the attempt and opens the reply window; NODE_START_BIT in WAITING begins a reply; neither
changes anything else, and neither acts in another Transceiver state (R4, R10). -/
def Obligations.FrameSentAndStartBit : Prop :=
  ∀ (s : State) (l : LineId),
    let ln := s.line l
    (ln.xcvr.state = .sending →
      exec (.frameSent l) s = .next (s.setLine l { ln with xcvr := { ln.xcvr with
        state := .waiting, attempts := ln.xcvr.attempts + 1, window := some (100 * (s.lineConfig l).replyTimeout) } })) ∧
    (ln.xcvr.state ≠ .sending → exec (.frameSent l) s = .next s) ∧
    (ln.xcvr.state = .waiting →
      exec (.nodeStartBit l) s = .next (s.setLine l { ln with xcvr := { ln.xcvr with
        state := .receiving, window := none } })) ∧
    (ln.xcvr.state ≠ .waiting → exec (.nodeStartBit l) s = .next s)

/-- An attempt that ends SILENT or GARBLED with attempts left: the same frame is sent again at once, a GARBLED one counted,
and nothing else changes (R3, R4, R9, R11). -/
def Obligations.FailedAttemptIsRepeated : Prop :=
  ∀ (s : State) (l : LineId), s.Sound → (s.line l).xcvr.attempts < 1 + (s.lineConfig l).retryLimit →
    let again := fun (garbled : Nat) => s.setLine l { s.line l with xcvr := { (s.line l).xcvr with
      state := .sending, garbled := garbled, window := none } }
    ((s.line l).xcvr.state = .waiting →
      exec (.replyWindowClose l) s = .next (again (s.line l).xcvr.garbled)) ∧
    ((s.line l).xcvr.state = .receiving →
      exec (.replyOverrun l) s = .next (again ((s.line l).xcvr.garbled + 1))) ∧
    (∀ rx f, (s.line l).xcvr.state = .receiving → (s.line l).xcvr.frame = some f → judge f rx = none →
      exec (.endOfReply l rx) s = .next (again ((s.line l).xcvr.garbled + 1)))

/-- The last attempt ends SILENT or GARBLED: the exchange ends FAILED with its counts. A VALID reply ends the exchange
VALID. The result is applied to the line and what follows follows (R9, R11, R41). Outside its Transceiver state a happening
on the wire does nothing (R4, log 4). -/
def Obligations.ExchangeEndsAtTheLimitOrValid : Prop :=
  ∀ (s : State) (l : LineId),
    let x := (s.line l).xcvr
    let ended := fun (reply : Option Reply) (garbled : Nat) => s.finish l ((s.line l).exchangeEnd
      { line := l, cfg := s.lineConfig l } { reply := reply, attempts := x.attempts, garbled := garbled })
    (x.state = .waiting → 1 + (s.lineConfig l).retryLimit ≤ x.attempts →
      exec (.replyWindowClose l) s = .next (ended none x.garbled)) ∧
    (x.state = .receiving → 1 + (s.lineConfig l).retryLimit ≤ x.attempts →
      exec (.replyOverrun l) s = .next (ended none (x.garbled + 1)) ∧
      ∀ rx f, x.frame = some f → judge f rx = none →
        exec (.endOfReply l rx) s = .next (ended none (x.garbled + 1))) ∧
    (∀ rx f r, x.state = .receiving → x.frame = some f → judge f rx = some r →
      exec (.endOfReply l rx) s = .next (ended (some r) x.garbled)) ∧
    (x.state ≠ .waiting → exec (.replyWindowClose l) s = .next s) ∧
    (x.state ≠ .receiving → exec (.replyOverrun l) s = .next s ∧ ∀ rx, exec (.endOfReply l rx) s = .next s)

/-- The table of accepted replies (R8), with the OFFER rule of POLL and the length rule of ROPEN; whether a segment fits what
is owed is not judged here. A reply outside the table is GARBLED: the bytes a node sends for it are judged as no reply. -/
def Obligations.AcceptedReplyTable : Prop :=
  ∀ (f : Frame) (r : Reply),
    (r.kind = .ack →
      (f.kind = .poll → (replyAccepted f r = true ↔
        r.payload.length = 1 ∧ (r.offer = true ↔ 0 < leNat r.payload))) ∧
      (f.kind = .identify → (replyAccepted f r = true ↔ r.payload.length = 6)) ∧
      (f.kind = .command → (replyAccepted f r = true ↔ r.payload.length ≤ 32)) ∧
      (f.kind = .wdata → (replyAccepted f r = true ↔ r.payload = [])) ∧
      (f.kind = .ropen → (replyAccepted f r = true ↔ r.payload.length = 2 ∧ leNat r.payload ≤ leNat f.payload)) ∧
      (f.kind = .rdata ∨ f.kind = .collect → (replyAccepted f r = true ↔
        (r.last = false ∧ r.payload.length = 32) ∨ (r.last = true ∧ 1 ≤ r.payload.length ∧ r.payload.length ≤ 32))) ∧
      (f.kind = .close → (replyAccepted f r = true ↔ r.payload = []))) ∧
    (r.kind = .nakBusy → (replyAccepted f r = true ↔ r.payload = [] ∧ f.kind ≠ .identify ∧ f.kind ≠ .close)) ∧
    (r.kind = .nakRefused →
      (replyAccepted f r = true ↔ r.payload = [] ∧ f.kind ≠ .poll ∧ f.kind ≠ .identify ∧ f.kind ≠ .close)) ∧
    (replyAccepted f r = false → judge f (Reply.received f.node r) = none)

/-- Sending and judging agree: the bytes of a reply, as a node sends them under the layout of 11 section 11.6 and R7, are
read back as that reply, and the attempt is VALID exactly when the reply is accepted for the frame and its toggle agrees
(R5, R7, R8, R9). The bytes of a master frame are read back by a node as that frame; a node that keeps its obligations (R22)
answers the frames addressed to it and no others, and ignores one whose last byte is not the CRC-8 of those before it. -/
def Obligations.JudgeReadsWhatANodeSends : Prop :=
  (∀ (f : Frame) (r : Reply),
    judge f (Reply.received f.node r) = if replyAccepted f r && toggleAgrees f r then some r else none) ∧
  ∀ (n : NodeState) (will : NodeWill),
    (∀ f : Frame, parseFrame f.bytes = some f ∧ (f.node ≠ n.address → n.hear will f.bytes = (n, none)) ∧
      (f.node = n.address → ∃ m r, n.answer will f = (m, some r) ∧ n.hear will f.bytes = (m, some (r.bytes n.address)))) ∧
    ∀ bytes : List Byte, crc8 bytes.dropLast ≠ bytes.getLastD 0 → n.hear will bytes = (n, none)

/-- A completion record as written is 16 bytes that read back as the record, its stamp and its phase under the layout of 11
section 11.3; bits 5..7 of byte 0 and byte 3 are 0 (R151, R170). The write goes to the slot at the producer index of the
completion ring, descriptor 9 of the loaded configuration, whose slots are 16 bytes (R140, R149). -/
def Obligations.CompletionRecordReadsBack : Prop :=
  ∀ w : WrittenRecord,
    w.bytes.length = 16 ∧
    (w.bytes.getD 0 0).getLsbD 0 = w.phase ∧
    ((w.bytes.getD 0 0).extractLsb' 1 2).toNat = w.record.type.number ∧
    ((w.bytes.getD 0 0).extractLsb' 3 2).toNat = w.record.line.val ∧
    (w.bytes.getD 0 0).extractLsb' 5 3 = 0#3 ∧
    w.bytes.getD 1 0 = w.record.code.byte ∧ w.bytes.getD 2 0 = w.record.node ∧ w.bytes.getD 3 0 = 0 ∧
    field w.bytes 4 2 = w.record.tag.toNat ∧ field w.bytes 6 2 = w.record.count.toNat ∧
    field w.bytes 8 4 = w.stamp.toNat ∧ field w.bytes 12 4 = w.record.detail.toNat ∧
    ∀ (s : State) (c : LoadedConfig), s.loaded = some c → s.writer.write = some w →
      s.completionWrite = some
        ((c.rings.get 9).base + BitVec.ofNat 64 (16 * (s.writer.producer.toNat % s.complSize)), w.bytes)

/-! ## The Node Table -/

/-- The end of an exchange leaves the Transceiver IDLE and the engine with no exchange and no purpose; no other entry of the
line changes, nor the driver, and at most the head leaves each queue (R11, R41). The CLOSE COLLECTED goes to the node of the
collection (R135). -/
def Obligations.ExchangeEndTouchesOneEntry : Prop :=
  ∀ (ln : Line) (x : LineCtx) (res : ExchangeResult) (p : Purpose) (f : Frame),
    ln.engine.purpose = some p → ln.xcvr.frame = some f →
    (p = .closeCollected → ∀ k, ln.engine.collection = some k → k.node = f.node) →
    let e := ln.exchangeEnd x res
    e.xcvr = Transceiver.initial ∧ e.engine.state = .idle ∧ e.engine.purpose = none ∧ e.engine.access = none ∧
      e.driver = ln.driver ∧ (∀ n, n ≠ f.node → e.entry n = ln.entry n) ∧
      (e.engine.urgent = ln.engine.urgent ∨ e.engine.urgent = ln.engine.urgent.tail) ∧
      (e.engine.routine = ln.engine.routine ∨ e.engine.routine = ln.engine.routine.tail)

/-- A FAILED exchange to a PRESENT entry counts one miss; at the miss budget the entry is SILENT with its counts 0, and
NODE_SILENT is the first record produced. A FAILED slow POLL or IDENTIFY of a SILENT entry counts a silent miss; at the drop
limit the entry is VACANT and NODE_LOST is produced first; a FAILED IDENTIFY sets its rejoin check to 0 in either case. A
FAILED IDENTIFY makes a VACANT entry CONFLICT when every attempt was GARBLED, with ADDRESS_CONFLICT produced first, and
leaves it VACANT otherwise; it leaves a CONFLICT entry CONFLICT when every attempt was GARBLED, and clears it to VACANT
otherwise. A case of these that names no event produces none. An exchange FAILED with cause TRIP leaves the entry as it was and
produces nothing (R43, R45, R46, R47, R49, R50, R58). -/
def Obligations.FailedExchangeCountsAMiss : Prop :=
  ∀ (ln : Line) (x : LineCtx) (p : Purpose) (f : Frame) (attempts garbled : Nat),
    ln.engine.purpose = some p → ln.xcvr.frame = some f →
    let e := ln.entry f.node
    let after := ln.exchangeEnd x { reply := none, attempts := attempts, garbled := garbled }
    let e' := after.entry f.node
    let event := fun (code : Code) (detail : BitVec 32) => ∃ rest, after.engine.owed = ln.engine.owed ++
      { record := { type := .event, line := x.line, code := code, node := BitVec.ofNat 8 (f.node.val + 1), tag := 0,
                    count := 0, detail := detail }, effect := .none } :: rest
    let noEvent := ∃ more, after.engine.owed = ln.engine.owed ++ more ∧ ∀ o ∈ more, o.record.type ≠ .event
    (e.state = .present → e.missCount + 1 < x.cfg.missBudget →
      e'.state = .present ∧ e'.missCount = e.missCount + 1 ∧ noEvent) ∧
    (e.state = .present → x.cfg.missBudget ≤ e.missCount + 1 →
      e'.state = .silent ∧ e'.missCount = 0 ∧ e'.silentMisses = 0 ∧ e'.rejoinCheck = false ∧
        e'.identity = e.identity ∧ event .nodeSilent (e.identity.getD 0)) ∧
    (e.state = .silent → f.kind = .poll ∨ f.kind = .identify → e.silentMisses + 1 < x.cfg.dropLimit →
      e'.state = .silent ∧ e'.silentMisses = e.silentMisses + 1 ∧ noEvent) ∧
    (e.state = .silent → f.kind = .poll ∨ f.kind = .identify → x.cfg.dropLimit ≤ e.silentMisses + 1 →
      e'.state = .vacant ∧ e'.identity = none ∧ event .nodeLost (e.identity.getD 0)) ∧
    (e.state = .silent → f.kind = .identify → e'.rejoinCheck = false) ∧
    (e.state = .vacant → f.kind = .identify → garbled = attempts →
      e'.state = .conflict ∧ event .addressConflict (BitVec.ofNat 32 attempts)) ∧
    (e.state = .vacant → f.kind = .identify → garbled ≠ attempts → noEvent ∧ (p ≠ .closeCollected → e' = e)) ∧
    (e.state = .conflict → f.kind = .identify → garbled = attempts → noEvent ∧ (p ≠ .closeCollected → e' = e)) ∧
    (e.state = .conflict → f.kind = .identify → garbled ≠ attempts → noEvent ∧ e' = { Entry.initial with
      sendToggle := e.sendToggle, recvToggle := e.recvToggle }) ∧
    let cut := ln.exchangeEnd x { reply := none, attempts := attempts, garbled := garbled, tripped := true }
    cut.entry f.node = e ∧ cut.engine.owed = ln.engine.owed

/-- A VALID IDENTIFY: a VACANT or CONFLICT entry joins; a PRESENT or SILENT one keeps its identity, or is replaced with
NODE_LOST and NODE_JOINED when another identity answers; both toggles are 0 and the alert is the reply's. A VALID reply of
any kind to any other frame, NAK_BUSY and NAK_REFUSED included, sets the miss count of a PRESENT entry to 0 and leaves it
PRESENT (R17, R42, R44, R45, R49, R56, R57). -/
def Obligations.ValidIdentifyDecidesTheEntry : Prop :=
  ∀ (e : Entry) (cfg : LineConfig) (r : Reply) (attempts garbled : Nat),
    let res : ExchangeResult := { reply := some r, attempts := attempts, garbled := garbled }
    let after := (e.afterExchange cfg .identify res).1
    let codes := (e.afterExchange cfg .identify res).2.map (·.code)
    let joined := after.state = .present ∧ after.identity = some (identityOf r) ∧
      after.capability = some (capabilityOf r) ∧ after.sendToggle = false ∧ after.recvToggle = false ∧
      after.missCount = 0 ∧ after.silentMisses = 0 ∧ after.rejoinCheck = false ∧ after.alert = r.alert
    let alert := fun (before : Bool) => if r.alert && !before then [Code.nodeAlert] else []
    (r.kind = .ack →
    (e.state = .vacant ∨ e.state = .conflict →
      joined ∧ after.offerLength = none ∧ codes = .nodeJoined :: alert false) ∧
    (e.state = .silent → e.identity = some (identityOf r) →
      joined ∧ after.offerLength = e.offerLength ∧ codes = .nodeRejoined :: alert e.alert) ∧
    (e.state = .present → e.identity = some (identityOf r) → e.silentMisses = 0 → e.rejoinCheck = false →
      joined ∧ after.offerLength = e.offerLength ∧ codes = alert e.alert) ∧
    (e.state = .present ∨ e.state = .silent → e.identity ≠ some (identityOf r) →
      joined ∧ after.offerLength = none ∧ codes = .nodeLost :: .nodeJoined :: alert false)) ∧
    ∀ kind, kind ≠ .identify → e.state = .present →
      ((e.afterExchange cfg kind res).1).missCount = 0 ∧ ((e.afterExchange cfg kind res).1).state = .present

/-! ## Requests -/

/-- The node address check (R90): a SEND, STORE, FETCH, PROBE, BAR or UNBAR whose address is outside 1..12 and which passed
the first check completes BAD_NODE; ABORT and POWER never do; a record with both faults completes BAD_REQUEST. A record that
fails a check leaves its queue, and its RESULT with that status and count 0 is produced, with an ABORT's target tag in the
detail (R116). -/
def Obligations.BadNodeCheck : Prop :=
  ∀ (ln : Line) (x : LineCtx) (side : QueueSide) (r : Request) (rest : List Request),
    let fails := fun (code : Code) =>
      ({ record := { type := .result, line := x.line, code := code, node := r.node, tag := r.tag, count := 0,
                     detail := if requestKind r.kind = some .abort then r.targetTag.setWidth 32 else 0 },
         effect := .none } : Owed)
    (r.badRequest side = true → ln.checkRecord side r = some .badRequest) ∧
    (∀ k, r.badRequest side = false → requestKind r.kind = some k → k ≠ .abort → k ≠ .power →
      (ln.checkRecord side r = some .badNode ↔ r.node = 0 ∨ 13 ≤ r.node.toNat)) ∧
    (requestKind r.kind = some .abort ∨ requestKind r.kind = some .power → ln.checkRecord side r ≠ some .badNode) ∧
    (∀ code, side = .urgent → ln.engine.urgent = r :: rest → ln.engine.urgentBusy = 0 →
      ln.checkRecord side r = some code →
        (ln.urgentUnit x r).engine.urgent = rest ∧
          (ln.urgentUnit x r).engine.owed = ln.engine.owed ++ [fails code]) ∧
    (∀ code, side = .routine → ln.engine.routine = r :: rest → ln.engine.transfer = none →
      ln.checkRecord side r = some code →
        (ln.routineUnit x r).engine.routine = rest ∧
          (ln.routineUnit x r).engine.owed = ln.engine.owed ++ [fails code])

/-- The last two checks (R36, R89, R91): a SEND, STORE, FETCH or PROBE with a good address on a line that is not UP completes
LINE_DOWN; on a line that is UP a SEND, STORE or FETCH proceeds to a PRESENT entry, completes NO_NODE at a VACANT, SILENT or
CONFLICT one and NODE_BARRED at a BARRED one, and a PROBE always proceeds, as a BAR and an UNBAR do on any line. An ABORT and
a POWER proceed on any line, whatever their node address field holds. -/
def Obligations.ChecksAtSelection : Prop :=
  ∀ (ln : Line) (side : QueueSide) (r : Request) (k : RequestKind),
    r.badRequest side = false → requestKind r.kind = some k →
    (k = .abort ∨ k = .power → ln.checkRecord side r = none) ∧
    ∀ n, nodeOf r.node = some n →
      (k = .send ∨ k = .store ∨ k = .fetch ∨ k = .probe → ln.driver.state ≠ .up →
        ln.checkRecord side r = some .lineDown) ∧
      (k = .send ∨ k = .store ∨ k = .fetch → ln.driver.state = .up →
        ln.checkRecord side r =
          match (ln.entry n).state with
          | .present => none
          | .barred => some .nodeBarred
          | _ => some .noNode) ∧
      (k = .probe → ln.driver.state = .up → ln.checkRecord side r = none) ∧
      (k = .bar ∨ k = .unbar → ln.checkRecord side r = none)

/-- Selection at a boundary (R77): the urgent class if its head is not in backoff; else the poll class on a line that is UP
with a round in progress or pending; else the routine class if its head is not in backoff. -/
def Obligations.SelectionOrder : Prop :=
  ∀ ln : Line,
    let urgent := ln.engine.urgent ≠ [] ∧ ln.engine.urgentDeadline = none
    let poll := ln.driver.state = .up ∧ (ln.rounds.round.isSome ∨ ln.rounds.pending = true)
    let routine := ln.engine.routine ≠ [] ∧ ∀ t, ln.engine.transfer = some t → t.deadline = none
    (ln.selectClass = some .urgent ↔ urgent) ∧
    (ln.selectClass = some .poll ↔ ¬urgent ∧ poll) ∧
    (ln.selectClass = some .routine ↔ ¬urgent ∧ ¬poll ∧ routine) ∧
    (ln.selectClass = none ↔ ¬urgent ∧ ¬poll ∧ ¬routine)

/-- The lists of rounds (R63, R65): an ordinary round polls each PRESENT address, a slow one each PRESENT and SILENT address,
a discovery round identifies each address of the probe mask that is not BARRED; each once, in ascending order. The probe
slot (R64) is the first VACANT address of the probe mask from the one after the probe cursor round to the cursor's own; there
is none only when no address qualifies. -/
def Obligations.RoundLists : Prop :=
  ∀ (ln : Line) (cfg : LineConfig) (kind : RoundKind),
    let after := fun (i : Nat) => (⟨(ln.rounds.cursor.val + 1 + i) % 12, Nat.mod_lt _ (by decide)⟩ : Node)
    let qualifies := fun (n : Node) => (ln.entry n).state = .vacant ∧ cfg.probeMask.getLsbD (n.val + 1) = true
    (∀ n, Turn.poll n ∈ ln.pollTurns kind ↔
      (ln.entry n).state = .present ∨ (kind = .slow ∧ (ln.entry n).state = .silent)) ∧
    (∀ n, Turn.identify n ∈ ln.discoveryTurns cfg ↔
      cfg.probeMask.getLsbD (n.val + 1) = true ∧ (ln.entry n).state ≠ .barred) ∧
    (ln.pollTurns kind).Pairwise (fun a b => a.node.val < b.node.val) ∧
    (ln.discoveryTurns cfg).Pairwise (fun a b => a.node.val < b.node.val) ∧
    (∀ n, ln.probeSlot cfg = some n ↔
      ∃ i, i < 12 ∧ n = after i ∧ qualifies n ∧ ∀ j, j < i → ¬qualifies (after j)) ∧
    (ln.probeSlot cfg = none ↔ ∀ n, ¬qualifies n)

/-- BAR (R52, R53): the entry is BARRED with its toggles kept and everything else cleared; the active record of that node
completes NODE_BARRED with its bytes done and leaves the routine queue, a collection of that node that holds a buffer returns
it NODE_BARRED and ends, the round moving on, and the BAR completes OK, in that order. An active record or a collection of
another node is kept, the other routine records stay, and driver, Transceiver and round state are untouched. UNBAR (R54)
clears a BARRED entry to VACANT, leaves any other as it is, and completes OK. -/
def Obligations.BarAndUnbar : Prop :=
  ∀ (ln : Line) (l : LineId) (n : Node) (a : Request) (rest : List Request), ln.engine.urgent = a :: rest →
    ln.activeIsHead →
    let cleared := fun (st : EntryState) => { Entry.initial with
      state := st, sendToggle := (ln.entry n).sendToggle, recvToggle := (ln.entry n).recvToggle }
    let result := fun (r : Request) (code : Code) (count : Nat) =>
      ({ record := { type := .result, line := l, code := code, node := r.node, tag := r.tag,
                     count := BitVec.ofNat 16 count, detail := 0 }, effect := .none } : Owed)
    let active := match ln.engine.transfer, ln.engine.routine with
      | some t, r :: _ => if t.node = n then [result r .nodeBarred t.bytesDone] else []
      | _, _ => []
    let collected := match ln.engine.collection with
      | some { node := m, buffer := some b, bytesWritten := w, .. } =>
        if m = n then
          [({ record := { type := .arrival, line := l, code := .nodeBarred, node := BitVec.ofNat 8 (n.val + 1), tag := 0,
                          count := BitVec.ofNat 16 w, detail := b.id }, effect := .none } : Owed)]
        else []
      | _ => []
    ((ln.bar l n).entry n = cleared .barred ∧ (∀ m, m ≠ n → (ln.bar l n).entry m = ln.entry m) ∧
      (ln.bar l n).engine.urgent = rest ∧
      (ln.bar l n).engine.owed = ln.engine.owed ++ active ++ collected ++ [result a .ok 0] ∧
      (∀ t, ln.engine.transfer = some t → t.node = n →
        (ln.bar l n).engine.transfer = none ∧ (ln.bar l n).engine.routine = ln.engine.routine.tail) ∧
      ((∀ t, ln.engine.transfer = some t → t.node ≠ n) →
        (ln.bar l n).engine.transfer = ln.engine.transfer ∧ (ln.bar l n).engine.routine = ln.engine.routine) ∧
      (∀ k, ln.engine.collection = some k → k.node = n → k.buffer.isSome →
        (ln.bar l n).engine.collection = none ∧ (ln.bar l n).engine.cont = .advance) ∧
      ((∀ k, ln.engine.collection = some k → k.node ≠ n) →
        (ln.bar l n).engine.collection = ln.engine.collection ∧ (ln.bar l n).engine.cont = ln.engine.cont) ∧
      (ln.bar l n).driver = ln.driver ∧ (ln.bar l n).xcvr = ln.xcvr ∧ (ln.bar l n).rounds = ln.rounds) ∧
    ((ln.unbar l n).entry n = (if (ln.entry n).state = .barred then cleared .vacant else ln.entry n) ∧
      (ln.unbar l n).engine.urgent = rest ∧ (ln.unbar l n).engine.owed = ln.engine.owed ++ [result a .ok 0])

/-- POWER (R33, R34, R35): ON in OFF, FAILED or COOLDOWN applies the supply with the restart budget reloaded, and leaves
SETTLING and UP as they are; OFF in a state other than OFF (in TRIPPED too, where no POWER is selected, log 18) removes the
supply and produces LINE_OFF, the active record's LINE_DOWN, the collection's ARRIVAL LINE_DOWN and the OK, in that order;
a line that was UP leaves UP (R27); in OFF it only completes OK. Restarts left is not changed by OFF. CYCLE (R35) does the
same without the OK, skipping it in OFF, and keeps the request at the head; then it applies the supply with the restart
budget reloaded and completes OK. That the supply returns only when the records of the first half are placed is read from
R35 (log 9). -/
def Obligations.PowerOnAndOff : Prop :=
  ∀ (ln : Line) (x : LineCtx) (a : Request) (rest : List Request), ln.engine.urgent = a :: rest → ln.activeIsHead →
    let result := fun (r : Request) (code : Code) (count : Nat) =>
      ({ record := { type := .result, line := x.line, code := code, node := r.node, tag := r.tag,
                     count := BitVec.ofNat 16 count, detail := 0 }, effect := .none } : Owed)
    let ok := result a .ok 0
    let active := match ln.engine.transfer, ln.engine.routine with
      | some t, r :: _ => [result r .lineDown t.bytesDone]
      | _, _ => []
    let collected := match ln.engine.collection with
      | some { node := m, buffer := some b, bytesWritten := w, .. } =>
        [({ record := { type := .arrival, line := x.line, code := .lineDown, node := BitVec.ofNat 8 (m.val + 1),
                        tag := 0, count := BitVec.ofNat 16 w, detail := b.id }, effect := .none } : Owed)]
      | _ => []
    let lineOff : Owed :=
      { record := { type := .event, line := x.line, code := .lineOff, node := 0, tag := 0, count := 0, detail := 0 },
        effect := .clearEntries }
    (ln.driver.state = .off ∨ ln.driver.state = .failed ∨ ln.driver.state = .cooldown →
      (ln.powerOn x).driver = { ln.driver with
        state := .settling, restartsLeft := x.cfg.restartBudget, settle := some (1000 * x.cfg.settleTime),
        cooldown := none } ∧
      (ln.powerOn x).engine.owed = ln.engine.owed ++ [ok]) ∧
    (ln.driver.state = .settling ∨ ln.driver.state = .up →
      (ln.powerOn x).driver = ln.driver ∧ (ln.powerOn x).engine.owed = ln.engine.owed ++ [ok]) ∧
    (ln.driver.state ≠ .off →
      (ln.powerOff x).driver = { ln.driver with state := .off, settle := none, cooldown := none } ∧
      (ln.powerOff x).engine.urgent = rest ∧ (ln.powerOff x).engine.transfer = none ∧
      (ln.powerOff x).engine.collection = none ∧
      (ln.powerOff x).engine.owed = ln.engine.owed ++ [lineOff] ++ active ++ collected ++ [ok]) ∧
    (ln.driver.state = .off →
      (ln.powerOff x).driver = ln.driver ∧ (ln.powerOff x).engine.owed = ln.engine.owed ++ [ok]) ∧
    (ln.driver.state ≠ .off →
      (ln.powerCycle x).driver = { ln.driver with state := .off, settle := none, cooldown := none } ∧
      (ln.powerCycle x).engine.urgent = a :: rest ∧ (ln.powerCycle x).engine.transfer = none ∧
      (ln.powerCycle x).engine.collection = none ∧ (ln.powerCycle x).engine.cont = .cycleOn ∧
      (ln.powerCycle x).engine.owed = ln.engine.owed ++ [lineOff] ++ active ++ collected) ∧
    (ln.driver.state ≠ .off → ∀ after ∈ [ln.powerOff x, ln.powerCycle x],
      after.rounds = (if ln.driver.state = .up then
        { ln.rounds with pollTimer := none, pending := false, round := none, rejoin := none } else ln.rounds) ∧
      after.engine.routine =
        (if ln.engine.transfer.isSome then ln.engine.routine.tail else ln.engine.routine) ∧
      (ln.driver.state = .up → after.engine.urgentDeadline = none) ∧ after.table = ln.table) ∧
    (ln.driver.state = .off → ln.powerCycle x = { ln with engine := { ln.engine with cont := .cycleOn } }) ∧
    (ln.cycleOn x).driver = { ln.driver with
      state := .settling, restartsLeft := x.cfg.restartBudget, settle := some (1000 * x.cfg.settleTime),
      cooldown := none } ∧
    (ln.cycleOn x).engine.urgent = rest ∧ (ln.cycleOn x).engine.cont = .boundary ∧
    (ln.cycleOn x).engine.owed = ln.engine.owed ++ [ok]

/-- ABORT (R117, R118, R119, R123): no record with the target tag gives NOT_FOUND; a waiting record, the oldest that matches,
leaves the queue and is answered ABORTED with count 0; the active record without an open session, or with one at an entry that
is not PRESENT, is answered ABORTED with its bytes done and no frame is sent; the ABORT's own RESULT follows. Where the
active record has an open session and its entry is PRESENT, the CLOSE ABANDONED is handed over instead (R120). -/
def Obligations.AbortSearchesTheRoutineQueue : Prop :=
  ∀ (ln : Line) (l : LineId) (a : Request) (rest : List Request), ln.engine.urgent = a :: rest →
    let result := fun (r : Request) (code : Code) (count : Nat) (tag : BitVec 16) =>
      ({ record := { type := .result, line := l, code := code, node := r.node, tag := r.tag,
                     count := BitVec.ofNat 16 count, detail := tag.setWidth 32 }, effect := .none } : Owed)
    ((∀ r ∈ ln.engine.routine, r.tag ≠ a.targetTag) → ln.activeIsHead →
      (ln.abort l a).engine.routine = ln.engine.routine ∧ (ln.abort l a).engine.urgent = rest ∧
      (ln.abort l a).engine.owed = ln.engine.owed ++ [result a .notFound 0 a.targetTag]) ∧
    (∀ before r behind, ln.engine.transfer = none → ln.engine.routine = before ++ r :: behind →
      (∀ q ∈ before, q.tag ≠ a.targetTag) → r.tag = a.targetTag →
      (ln.abort l a).engine.routine = before ++ behind ∧ (ln.abort l a).engine.urgent = rest ∧
      (ln.abort l a).engine.owed = ln.engine.owed ++ [result r .aborted 0 a.tag, result a .ok 0 a.targetTag]) ∧
    (∀ t head before r behind, ln.engine.transfer = some t → t.tag ≠ a.targetTag →
      ln.engine.routine = head :: before ++ r :: behind →
      (∀ q ∈ before, q.tag ≠ a.targetTag) → r.tag = a.targetTag →
      (ln.abort l a).engine.routine = head :: before ++ behind ∧ (ln.abort l a).engine.transfer = some t ∧
      (ln.abort l a).engine.owed = ln.engine.owed ++ [result r .aborted 0 a.tag, result a .ok 0 a.targetTag]) ∧
    (∀ t r behind, ln.engine.transfer = some t → ln.engine.routine = r :: behind → t.tag = a.targetTag →
      t.sessionOpen = false ∨ (ln.entry t.node).state ≠ .present →
      (ln.abort l a).xcvr = ln.xcvr ∧ (ln.abort l a).engine.urgent = rest ∧
      (ln.abort l a).engine.transfer = none ∧ (ln.abort l a).engine.routine = behind ∧
      (ln.abort l a).engine.owed =
        ln.engine.owed ++ [result r .aborted t.bytesDone a.tag, result a .ok 0 a.targetTag]) ∧
    (∀ t, ln.engine.transfer = some t → t.tag = a.targetTag → t.sessionOpen = true →
      (ln.entry t.node).state = .present → ln.driver.state = .up →
      (ln.abort l a).xcvr.state = .sending ∧ (ln.abort l a).engine.purpose = some .abortClose ∧
      (ln.abort l a).xcvr.frame =
        some { kind := .close, node := t.node, toggle := false, first := false, payload := [2] } ∧
      ∃ t', (ln.abort l a).engine.transfer = some t' ∧ t'.abortFlag = true ∧ t'.sessionOpen = false ∧
        t'.bytesDone = t.bytesDone)

/-! ## The Ring Fetcher -/

/-- RING_READ_DONE of a request ring: the record joins the back of its queue in its reserved place, the consumer index
advances by one modulo the size, and the write of the progress word begins; then what follows follows (R86, R144). The write
on the bus after the step is the one of two bytes with the new consumer index to the ring's word, word r of the progress area
of the loaded configuration (R145, 11 section 11.2). -/
def Obligations.RequestReadJoinsItsQueue : Prop :=
  ∀ (s : State) (r : RingId) (l : LineId) (data : List Byte), data.length = 48 →
    s.fetcher.fetch = some { ring := r, phase := .read } →
    let ring := s.ring r
    let i := if ring.consumer + 1 < s.ringSize r then ring.consumer + 1 else 0
    let moved := { s.setRing r { ring with consumer := i } with
      fetcher := { s.fetcher with fetch := some { ring := r, phase := .progress } } }
    let g := (s.line l).engine
    (r.val = l.val →
      exec (.ringReadDone (.ok data)) s = .next (s.settleFrom (moved.setLine l { s.line l with engine := { g with
        urgent := g.urgent ++ [Request.ofBytes data], urgentReserved := g.urgentReserved - 1 } }))) ∧
    (r.val = 4 + l.val →
      exec (.ringReadDone (.ok data)) s = .next (s.settleFrom (moved.setLine l { s.line l with engine := { g with
        routine := g.routine ++ [Request.ofBytes data], routineReserved := g.routineReserved - 1 } }))) ∧
    (∀ c, s.loaded = some c → s.ringSize r ≤ 1024 →
      ∃ t, exec (.ringReadDone (.ok data)) s = .next t ∧
        t.progressWrite = some (c.progress + BitVec.ofNat 64 (2 * r.val), leBytes 2 i))

/-- RING_READ_DONE of the supply ring: a record that qualifies joins the cache in its reserved place, or is returned CANCELLED
when the device is STOPPING; one that does not is returned BAD_BUFFER and keeps its place for now (R127, R138, R144). In each
case the write on the bus after the step is the one of two bytes with the new consumer index to word 8 of the progress area of
the loaded configuration (R145, 11 section 11.2). -/
def Obligations.SupplyReadJoinsTheCache : Prop :=
  ∀ (s : State) (data : List Byte), data.length = 16 →
    s.fetcher.fetch = some { ring := supplyRing, phase := .read } →
    let ring := s.ring supplyRing
    let i := if ring.consumer + 1 < s.ringSize supplyRing then ring.consumer + 1 else 0
    let moved := { s.setRing supplyRing { ring with consumer := i } with
      fetcher := { s.fetcher with fetch := some { ring := supplyRing, phase := .progress } } }
    let b := SupplyRecord.ofBytes data
    let back := fun (code : Code) =>
      ({ type := .arrival, line := 0, code := code, node := 0, tag := 0, count := 0, detail := b.id } : Completion)
    let good := 256 ≤ b.size.toNat ∧ b.size.toNat ≤ 4096 ∧ b.size.toNat % 4 = 0 ∧ b.addr.toNat % 4 = 0 ∧
      b.addr.toNat + b.size.toNat ≤ 2 ^ 64
    (good → s.device ≠ .stopping →
      exec (.ringReadDone (.ok data)) s =
        .next (s.settleFrom { moved with cache := s.cache ++ [b], cacheReserved := s.cacheReserved - 1 })) ∧
    (good → s.device = .stopping →
      exec (.ringReadDone (.ok data)) s = .next (s.settleFrom { moved with
        cacheReserved := s.cacheReserved - 1, serviceOwed := s.serviceOwed ++ [back .cancelled] })) ∧
    (¬good →
      exec (.ringReadDone (.ok data)) s =
        .next (s.settleFrom { moved with serviceOwed := s.serviceOwed ++ [back .badBuffer] })) ∧
    (∀ c, s.loaded = some c → s.ringSize supplyRing ≤ 1024 →
      ∃ t, exec (.ringReadDone (.ok data)) s = .next t ∧
        t.progressWrite = some (c.progress + BitVec.ofNat 64 16, leBytes 2 i))

/-- PROGRESS_WRITE_DONE ends the fetch; a bus error in the slot read or the progress write breaks the ring: its broken flag is
set, the consumer index is kept, and a RING_FAULT with the ring's number and consumer index is on its way; a failed read also
gives back the reserved place (R144, R145, R146). -/
def Obligations.FetchEndsOrBreaksItsRing : Prop :=
  ∀ (s : State) (r : RingId),
    let fault : Completion :=
      { type := .event, line := 0, code := .ringFault, node := 0, tag := 0,
        count := BitVec.ofNat 16 (s.ring r).consumer, detail := BitVec.ofNat 32 r.val }
    (s.fetcher.fetch = some { ring := r, phase := .progress } →
      exec (.progressWriteDone .ok) s =
        .next (s.settleFrom { s with fetcher := { s.fetcher with fetch := none } }) ∧
      exec (.progressWriteDone .busError) s =
        .next (s.settleFrom { s.setRing r { s.ring r with broken := true } with
          fetcher := { s.fetcher with fetch := none }, serviceOwed := s.serviceOwed ++ [fault] }) ∧
      ∃ t, exec (.progressWriteDone .busError) s = .next t ∧ t.ring r = { s.ring r with broken := true } ∧
        (∀ q, q ≠ r → t.ring q = s.ring q) ∧ t.servicePosts fault) ∧
    (s.fetcher.fetch = some { ring := r, phase := .read } →
      ∃ u, exec (.ringReadDone .busError) s = .next (s.settleFrom u) ∧ u.ring r = { s.ring r with broken := true } ∧
        (∀ q, q ≠ r → u.ring q = s.ring q) ∧ u.fetcher.fetch = none ∧ u.serviceOwed = s.serviceOwed ++ [fault] ∧
        (∀ l side, (u.line l).engine.reserved side =
          (s.line l).engine.reserved side - (if ringTarget r = some (l, side) then 1 else 0)) ∧
        u.cacheReserved = s.cacheReserved - (if r = supplyRing then 1 else 0) ∧
        ∀ l, (u.line l).engine.urgent = (s.line l).engine.urgent ∧
          (u.line l).engine.routine = (s.line l).engine.routine)

/-! ## Transfers and collections -/

/-- SEGMENT_READ_DONE with the segment's data: the WDATA is handed over with the entry's send toggle. A first segment makes
the record active, with FIRST set and the total length before the data; a later one carries the data alone. Nothing else of
the part changes (R10, R87, R96, R102). With a bus error a record that is not active, or has no session open, completes
BUS_ERROR with its bytes done; one with an open session is closed first, with the status BUS_ERROR decided (R105, R111). -/
def Obligations.SegmentReadSendsOrEndsTheStore : Prop :=
  ∀ (s : State) (l : LineId) (r : Request) (rest : List Request) (n : Node) (addr : HostAddr) (data : List Byte),
    let ln := s.line l
    ln.engine.state = .exchanging → ln.engine.access = some (.segmentRead addr data.length) →
    ln.engine.routine = r :: rest → nodeOf r.node = some n →
    let sendable := ln.driver.state = .up ∧ (ln.entry n).state ≠ .barred
    let result := fun (count : Nat) =>
      ({ type := .result, line := l, code := .busError, node := r.node, tag := r.tag, count := BitVec.ofNat 16 count,
         detail := 0 } : Completion)
    let ended := fun (count : Nat) => s.settleFrom (s.setLine l { ln with engine := { ln.engine with
      state := .idle, purpose := none, access := none, cont := .boundary, routine := rest, transfer := none,
      owed := ln.engine.owed ++ [{ record := result count, effect := .none }] } })
    let sent := fun (t : Transfer) (first : Bool) (payload : List Byte) =>
      s.setLine l { ln with
        xcvr := { state := .sending, attempts := 0, garbled := 0, window := none,
                  frame := some { kind := .wdata, node := n, toggle := (ln.entry n).sendToggle, first := first,
                                  payload := payload } },
        engine := { ln.engine with
          state := .exchanging, purpose := some .step, access := none, cont := .boundary, transfer := some t } }
    (sendable → ln.engine.transfer = none →
      exec (.segmentReadDone l (.ok data)) s =
        .next (sent { tag := r.tag, node := n, kind := .store, length := r.length.toNat, hostAddr := r.hostAddr,
                      available := none, bytesDone := 0, next := .wdata 1, held := some data, sessionOpen := false,
                      busyCount := 0, deadline := none, abortFlag := false } true (leBytes 2 r.length.toNat ++ data))) ∧
    (∀ t k, sendable → ln.engine.transfer = some t → t.node = n → t.next = .wdata k → k ≠ 1 →
      exec (.segmentReadDone l (.ok data)) s = .next (sent { t with held := some data } false data)) ∧
    (ln.engine.transfer = none →
      exec (.segmentReadDone l .busError) s = .next (ended 0) ∧ (ended 0).posts l (result 0)) ∧
    (∀ c, ln.engine.transfer = some c → c.sessionOpen = false →
      exec (.segmentReadDone l .busError) s = .next (ended c.bytesDone) ∧
        (ended c.bytesDone).posts l (result c.bytesDone)) ∧
    (∀ c, ln.engine.transfer = some c → c.sessionOpen = true →
      exec (.segmentReadDone l .busError) s = .next (s.settleFrom (s.setLine l { ln with engine := { ln.engine with
        state := .idle, purpose := none, access := none, cont := .closing .abandoned .busError } })))

/-- RESPONSE_WRITE_DONE: the SEND whose response was written completes, OK with the response's length or BUS_ERROR with
count 0; it leaves its queue, its RESULT is produced and on its way, and the engine comes to a boundary; nothing else
changes but what follows (R88, R98, R100). -/
def Obligations.ResponseWriteCompletesTheSend : Prop :=
  ∀ (s : State) (l : LineId) (side : QueueSide) (addr : HostAddr) (data : List Byte) (r : Request)
    (rest : List Request),
    let ln := s.line l
    ln.engine.state = .exchanging → ln.engine.access = some (.responseWrite side addr data) →
    (match side with
      | .urgent => ln.engine.urgent
      | .routine => ln.engine.routine) = r :: rest →
    let result := fun (code : Code) (count : Nat) =>
      ({ type := .result, line := l, code := code, node := r.node, tag := r.tag, count := BitVec.ofNat 16 count,
         detail := 0 } : Completion)
    let after := fun (code : Code) (count : Nat) =>
      let g : Engine := { ln.engine with
        state := .idle, purpose := none, access := none, cont := .boundary,
        owed := ln.engine.owed ++ [{ record := result code count, effect := .none }] }
      s.settleFrom (s.setLine l { ln with engine :=
        match side with
        | .urgent => { g with urgent := rest, urgentBusy := 0, urgentDeadline := none, cutOff := false }
        | .routine => { g with routine := rest, transfer := none } })
    (exec (.responseWriteDone l .ok) s = .next (after .ok data.length) ∧
      (after .ok data.length).posts l (result .ok data.length)) ∧
    (exec (.responseWriteDone l .busError) s = .next (after .busError 0) ∧
      (after .busError 0).posts l (result .busError 0))

/-- FETCH_SEGMENT_WRITE_DONE: the bytes written are counted, or none after a bus error; a segment with LAST clear that fits
leaves the FETCH at its next RDATA, the others end it: OK after the last segment, GARBLED after a mismatch, BUS_ERROR after a
failed write; where the node's session is still open the closing exchange comes first (R107, R108, R109). The judgement that
decides it at the end of the RDATA exchange, against the bytes still owed: the bytes of the payload that are written, where,
and what follows (R108). -/
def Obligations.FetchWriteCountsItsBytes : Prop :=
  ∀ (s : State) (l : LineId) (r : Request) (rest : List Request) (c : Transfer) (addr : HostAddr) (data : List Byte)
    (after : FetchAfter),
    let ln := s.line l
    ln.engine.state = .exchanging → ln.engine.access = some (.fetchWrite addr data after) →
    ln.engine.routine = r :: rest → ln.engine.transfer = some c →
    let counted := { c with bytesDone := c.bytesDone + data.length, busyCount := 0 }
    let goesOn := fun (t : Transfer) (k : Cont) => s.settleFrom (s.setLine l { ln with engine := { ln.engine with
      state := .idle, purpose := none, access := none, cont := k, transfer := some t } })
    let result := fun (code : Code) (count : Nat) =>
      ({ type := .result, line := l, code := code, node := r.node, tag := r.tag, count := BitVec.ofNat 16 count,
         detail := 0 } : Completion)
    let ended := fun (code : Code) (count : Nat) => s.settleFrom (s.setLine l { ln with engine := { ln.engine with
      state := .idle, purpose := none, access := none, cont := .boundary, routine := rest, transfer := none,
      owed := ln.engine.owed ++ [{ record := result code count, effect := .none }] } })
    (after = .more → exec (.fetchSegmentWriteDone l .ok) s = .next (goesOn counted .boundary) ∧
      exec (.fetchSegmentWriteDone l .busError) s = .next (goesOn c (.closing .abandoned .busError))) ∧
    (after = .mismatchOpen →
      exec (.fetchSegmentWriteDone l .ok) s = .next (goesOn counted (.closing .abandoned .garbled)) ∧
      exec (.fetchSegmentWriteDone l .busError) s = .next (goesOn c (.closing .abandoned .busError))) ∧
    (after = .last ∨ after = .mismatchEnded →
      let code : Code := if after = .last then .ok else .garbled
      let count := c.bytesDone + data.length
      (exec (.fetchSegmentWriteDone l .ok) s = .next (ended code count) ∧ (ended code count).posts l (result code count)) ∧
      exec (.fetchSegmentWriteDone l .busError) s = .next (ended .busError c.bytesDone) ∧
        (ended .busError c.bytesDone).posts l (result .busError c.bytesDone)) ∧
    ∀ reply : Reply,
      let o := c.available.getD 0 - c.bytesDone
      let n := reply.payload.length
      let judged := fun (written : Nat) (what : FetchAfter) =>
        let access : HostAccess :=
          .fetchWrite (c.hostAddr + BitVec.ofNat 64 c.bytesDone) (reply.payload.take written) what
        ln.rdataAck c reply = { ln with engine := { ln.engine with cont := .access access } }
      (reply.last = false → n = 32 → 32 < o → judged n .more) ∧
      (reply.last = true → n = o → judged n .last) ∧
      (reply.last = false → n = 32 → ¬32 < o → judged o .mismatchOpen) ∧
      (reply.last = true → n < o → judged n .mismatchEnded) ∧
      (reply.last = true → o < n → judged o .mismatchEnded)

/-- COLLECT_SEGMENT_WRITE_DONE: the bytes written are counted; a segment with LAST clear that fits leaves the collection at
its next COLLECT, the last one hands over the CLOSE COLLECTED in the same unit; a mismatch ends the collection GARBLED and a
failed write BUS_ERROR with the bytes before it. Where the collection ends, its ARRIVAL is produced and the round's position
moves on (R66, R132, R133, R134). The judgement that decides it at the end of the COLLECT exchange, against the bytes still
owed: the bytes of the payload that are written, where, and what follows (R132, R133). -/
def Obligations.CollectWriteCountsItsBytes : Prop :=
  ∀ (s : State) (l : LineId) (k : Collection) (b : SupplyRecord) (addr : HostAddr) (data : List Byte)
    (after : CollectAfter),
    let ln := s.line l
    ln.engine.state = .exchanging → ln.engine.access = some (.collectWrite addr data after) →
    ln.engine.collection = some k → k.buffer = some b →
    let counted := { k with bytesWritten := k.bytesWritten + data.length }
    let arrival := fun (code : Code) (count : Nat) =>
      ({ type := .arrival, line := l, code := code, node := BitVec.ofNat 8 (k.node.val + 1), tag := 0,
         count := BitVec.ofNat 16 count, detail := b.id } : Completion)
    let ended := fun (code : Code) (count : Nat) => s.settleFrom (s.setLine l { ln with engine := { ln.engine with
      state := .idle, purpose := none, access := none, cont := .advance, collection := none,
      owed := ln.engine.owed ++ [{ record := arrival code count, effect := .none }] } })
    (after = .more → exec (.collectSegmentWriteDone l .ok) s =
      .next (s.settleFrom (s.setLine l { ln with engine := { ln.engine with
        state := .idle, purpose := none, access := none, cont := .boundary, collection := some counted } }))) ∧
    (after = .last → ln.driver.state = .up → (ln.entry k.node).state = .present →
      exec (.collectSegmentWriteDone l .ok) s = .next (s.setLine l { ln with
        xcvr := { state := .sending, attempts := 0, garbled := 0, window := none,
                  frame := some { kind := .close, node := k.node, toggle := false, first := false, payload := [3] } },
        engine := { ln.engine with
          state := .exchanging, purpose := some .closeCollected, access := none, cont := .boundary,
          collection := some { counted with next := .close } } })) ∧
    (after = .mismatch →
      exec (.collectSegmentWriteDone l .ok) s = .next (ended .garbled (k.bytesWritten + data.length)) ∧
        (ended .garbled (k.bytesWritten + data.length)).posts l (arrival .garbled (k.bytesWritten + data.length))) ∧
    (exec (.collectSegmentWriteDone l .busError) s = .next (ended .busError k.bytesWritten) ∧
      (ended .busError k.bytesWritten).posts l (arrival .busError k.bytesWritten)) ∧
    ∀ (x : LineCtx) (reply : Reply) (attempts garbled : Nat), reply.kind = .ack →
      let o := k.offerLength - k.bytesWritten
      let n := reply.payload.length
      let judged := fun (written : Nat) (what : CollectAfter) =>
        let access : HostAccess :=
          .collectWrite (b.addr + BitVec.ofNat 64 k.bytesWritten) (reply.payload.take written) what
        ln.collectEnd x { reply := some reply, attempts := attempts, garbled := garbled } =
          { ln with engine := { ln.engine with cont := .access access } }
      (reply.last = false → n = 32 → 32 < o → judged n .more) ∧
      (reply.last = true → n = o → judged n .last) ∧
      (reply.last = false → n = 32 → ¬32 < o → judged o .mismatch) ∧
      (reply.last = true → n < o → judged n .mismatch) ∧
      (reply.last = true → o < n → judged o .mismatch)

/-! ## The Completion Writer -/

/-- COMPLETION_WRITE_DONE without a bus error: the producer count increases by one, the phase inverts when the new producer
index is 0, and the record is announced when the coalescing count is reached or the holdoff is 0; otherwise it adds to the
unannounced count, the first of them starting the holdoff. Then what follows follows (R151, R154). -/
def Obligations.WrittenRecordIsCounted : Prop :=
  ∀ s : State, s.device = .running ∨ s.device = .stopping → s.writer.write.isSome →
    let due := s.coalescing ≤ s.writer.unannounced + 1 ∨ s.holdoffUnits = 0
    let counted := { s.writer with
      producer := s.writer.producer + 1,
      phase := if (s.writer.producer + 1).toNat % s.complSize = 0 then !s.writer.phase else s.writer.phase,
      write := none }
    (due → exec (.completionWriteDone .ok) s = .next (s.settleFrom { s with
      intStatus := s.intStatus ||| 1#4, writer := { counted with unannounced := 0, holdoff := none } })) ∧
    (¬due → exec (.completionWriteDone .ok) s = .next (s.settleFrom { s with
      writer := { counted with
        unannounced := s.writer.unannounced + 1,
        holdoff := if s.writer.unannounced = 0 then some (8 * s.holdoffUnits) else s.writer.holdoff } })) ∧
    ∃ t, exec (.completionWriteDone .ok) s = .next t ∧ t.writer.producer = s.writer.producer + 1 ∧
      t.writer.consumed = s.writer.consumed ∧
      t.writer.phase = (if (s.writer.producer + 1).toNat % s.complSize = 0 then !s.writer.phase else s.writer.phase) ∧
      (due → t.intStatus.getLsbD 0 = true ∧ t.writer.unannounced = 0 ∧ t.writer.holdoff = none) ∧
      (¬due → t.device ≠ .halted →
        t.intStatus = s.intStatus ∧ t.writer.unannounced = s.writer.unannounced + 1 ∧
        t.writer.holdoff =
          (if s.writer.unannounced = 0 then some (8 * s.holdoffUnits) else s.writer.holdoff)) ∧
      t.rings = s.rings ∧ t.complConsumed = s.complConsumed ∧ t.loaded = s.loaded

/-- COMPLETION_WRITE_DONE with a bus error: FAULTED with COMPLETION_BUS_ERROR and the fault cause; the record is lost, the
producer count, phase and unannounced count are kept, the fetcher stops, every line is OFF with its Transceiver IDLE and its
engine FROZEN with everything it holds; a fetch on the bus is discarded (R147, R156, R167). That the engines' own accesses on
the bus are discarded too is the model's reading (log 23), and the list that holds them until they end is the model's choice
(log 11). -/
def Obligations.FailedCompletionWriteFaults : Prop :=
  ∀ s : State, s.device = .running ∨ s.device = .stopping → s.writer.write.isSome →
    ∃ t, exec (.completionWriteDone .busError) s = .next t ∧
      t = { s with
        device := .faulted, error := .completionBusError, errorField := 0, intStatus := s.intStatus ||| 4#4,
        fetcher := { s.fetcher with fetch := none },
        writer := { s.writer with write := none, holdoff := none },
        lines := t.lines,
        discarding := s.discarding ++ ({ s with writer := { s.writer with write := none } } : State).onBus } ∧
      ∀ l, t.line l = { s.line l with
        driver := { (s.line l).driver with state := .off, settle := none, cooldown := none },
        xcvr := { state := .idle, frame := none, attempts := 0, garbled := 0, window := none },
        engine := { (s.line l).engine with state := .frozen } }
end

