-- ==== Sys2Proof/Laws/State.lean ====
section
/-! SUPPORT. One lemma per field per update of the state, all true by definition, so that no later proof unfolds a record
update; then reading a line, a ring or an entry back after an update. -/

namespace Sys2Proof.Machine

/-! `State.setLine`: what it leaves and what it sets. -/

@[simp] theorem State.setLine_device (s : State) (l : LineId) (ln : Line) : (s.setLine l ln).device = s.device := rfl
@[simp] theorem State.setLine_error (s : State) (l : LineId) (ln : Line) : (s.setLine l ln).error = s.error := rfl
@[simp] theorem State.setLine_errorField (s : State) (l : LineId) (ln : Line) : (s.setLine l ln).errorField = s.errorField := rfl
@[simp] theorem State.setLine_configBaseLo (s : State) (l : LineId) (ln : Line) : (s.setLine l ln).configBaseLo = s.configBaseLo := rfl
@[simp] theorem State.setLine_configBaseHi (s : State) (l : LineId) (ln : Line) : (s.setLine l ln).configBaseHi = s.configBaseHi := rfl
@[simp] theorem State.setLine_intStatus (s : State) (l : LineId) (ln : Line) : (s.setLine l ln).intStatus = s.intStatus := rfl
@[simp] theorem State.setLine_intEnable (s : State) (l : LineId) (ln : Line) : (s.setLine l ln).intEnable = s.intEnable := rfl
@[simp] theorem State.setLine_complConsumed (s : State) (l : LineId) (ln : Line) : (s.setLine l ln).complConsumed = s.complConsumed := rfl
@[simp] theorem State.setLine_stamp (s : State) (l : LineId) (ln : Line) : (s.setLine l ln).stamp = s.stamp := rfl
@[simp] theorem State.setLine_loader (s : State) (l : LineId) (ln : Line) : (s.setLine l ln).loader = s.loader := rfl
@[simp] theorem State.setLine_loaded (s : State) (l : LineId) (ln : Line) : (s.setLine l ln).loaded = s.loaded := rfl
@[simp] theorem State.setLine_rings (s : State) (l : LineId) (ln : Line) : (s.setLine l ln).rings = s.rings := rfl
@[simp] theorem State.setLine_fetcher (s : State) (l : LineId) (ln : Line) : (s.setLine l ln).fetcher = s.fetcher := rfl
@[simp] theorem State.setLine_cache (s : State) (l : LineId) (ln : Line) : (s.setLine l ln).cache = s.cache := rfl
@[simp] theorem State.setLine_cacheReserved (s : State) (l : LineId) (ln : Line) : (s.setLine l ln).cacheReserved = s.cacheReserved := rfl
@[simp] theorem State.setLine_serviceSlot (s : State) (l : LineId) (ln : Line) : (s.setLine l ln).serviceSlot = s.serviceSlot := rfl
@[simp] theorem State.setLine_serviceOwed (s : State) (l : LineId) (ln : Line) : (s.setLine l ln).serviceOwed = s.serviceOwed := rfl
@[simp] theorem State.setLine_writer (s : State) (l : LineId) (ln : Line) : (s.setLine l ln).writer = s.writer := rfl
@[simp] theorem State.setLine_lines (s : State) (l : LineId) (ln : Line) : (s.setLine l ln).lines = s.lines.set l.val ln l.isLt := rfl
@[simp] theorem State.setLine_discarding (s : State) (l : LineId) (ln : Line) : (s.setLine l ln).discarding = s.discarding := rfl
@[simp] theorem State.setLine_freeCount (s : State) (l : LineId) (ln : Line) : (s.setLine l ln).freeCount = s.freeCount := rfl
@[simp] theorem State.setLine_pending (s : State) (l : LineId) (ln : Line) : (s.setLine l ln).pending = s.pending := rfl

/-! `State.mapLines`: what it leaves and what it sets. -/

@[simp] theorem State.mapLines_device (s : State) (f : Line → Line) : (s.mapLines f).device = s.device := rfl
@[simp] theorem State.mapLines_error (s : State) (f : Line → Line) : (s.mapLines f).error = s.error := rfl
@[simp] theorem State.mapLines_errorField (s : State) (f : Line → Line) : (s.mapLines f).errorField = s.errorField := rfl
@[simp] theorem State.mapLines_configBaseLo (s : State) (f : Line → Line) : (s.mapLines f).configBaseLo = s.configBaseLo := rfl
@[simp] theorem State.mapLines_configBaseHi (s : State) (f : Line → Line) : (s.mapLines f).configBaseHi = s.configBaseHi := rfl
@[simp] theorem State.mapLines_intStatus (s : State) (f : Line → Line) : (s.mapLines f).intStatus = s.intStatus := rfl
@[simp] theorem State.mapLines_intEnable (s : State) (f : Line → Line) : (s.mapLines f).intEnable = s.intEnable := rfl
@[simp] theorem State.mapLines_complConsumed (s : State) (f : Line → Line) : (s.mapLines f).complConsumed = s.complConsumed := rfl
@[simp] theorem State.mapLines_stamp (s : State) (f : Line → Line) : (s.mapLines f).stamp = s.stamp := rfl
@[simp] theorem State.mapLines_loader (s : State) (f : Line → Line) : (s.mapLines f).loader = s.loader := rfl
@[simp] theorem State.mapLines_loaded (s : State) (f : Line → Line) : (s.mapLines f).loaded = s.loaded := rfl
@[simp] theorem State.mapLines_rings (s : State) (f : Line → Line) : (s.mapLines f).rings = s.rings := rfl
@[simp] theorem State.mapLines_fetcher (s : State) (f : Line → Line) : (s.mapLines f).fetcher = s.fetcher := rfl
@[simp] theorem State.mapLines_cache (s : State) (f : Line → Line) : (s.mapLines f).cache = s.cache := rfl
@[simp] theorem State.mapLines_cacheReserved (s : State) (f : Line → Line) : (s.mapLines f).cacheReserved = s.cacheReserved := rfl
@[simp] theorem State.mapLines_serviceSlot (s : State) (f : Line → Line) : (s.mapLines f).serviceSlot = s.serviceSlot := rfl
@[simp] theorem State.mapLines_serviceOwed (s : State) (f : Line → Line) : (s.mapLines f).serviceOwed = s.serviceOwed := rfl
@[simp] theorem State.mapLines_writer (s : State) (f : Line → Line) : (s.mapLines f).writer = s.writer := rfl
@[simp] theorem State.mapLines_lines (s : State) (f : Line → Line) : (s.mapLines f).lines = s.lines.map f := rfl
@[simp] theorem State.mapLines_discarding (s : State) (f : Line → Line) : (s.mapLines f).discarding = s.discarding := rfl
@[simp] theorem State.mapLines_freeCount (s : State) (f : Line → Line) : (s.mapLines f).freeCount = s.freeCount := rfl
@[simp] theorem State.mapLines_pending (s : State) (f : Line → Line) : (s.mapLines f).pending = s.pending := rfl

/-! `State.setRing`: what it leaves and what it sets. -/

@[simp] theorem State.setRing_device (s : State) (r : RingId) (g : Ring) : (s.setRing r g).device = s.device := rfl
@[simp] theorem State.setRing_error (s : State) (r : RingId) (g : Ring) : (s.setRing r g).error = s.error := rfl
@[simp] theorem State.setRing_errorField (s : State) (r : RingId) (g : Ring) : (s.setRing r g).errorField = s.errorField := rfl
@[simp] theorem State.setRing_configBaseLo (s : State) (r : RingId) (g : Ring) : (s.setRing r g).configBaseLo = s.configBaseLo := rfl
@[simp] theorem State.setRing_configBaseHi (s : State) (r : RingId) (g : Ring) : (s.setRing r g).configBaseHi = s.configBaseHi := rfl
@[simp] theorem State.setRing_intStatus (s : State) (r : RingId) (g : Ring) : (s.setRing r g).intStatus = s.intStatus := rfl
@[simp] theorem State.setRing_intEnable (s : State) (r : RingId) (g : Ring) : (s.setRing r g).intEnable = s.intEnable := rfl
@[simp] theorem State.setRing_complConsumed (s : State) (r : RingId) (g : Ring) : (s.setRing r g).complConsumed = s.complConsumed := rfl
@[simp] theorem State.setRing_stamp (s : State) (r : RingId) (g : Ring) : (s.setRing r g).stamp = s.stamp := rfl
@[simp] theorem State.setRing_loader (s : State) (r : RingId) (g : Ring) : (s.setRing r g).loader = s.loader := rfl
@[simp] theorem State.setRing_loaded (s : State) (r : RingId) (g : Ring) : (s.setRing r g).loaded = s.loaded := rfl
@[simp] theorem State.setRing_rings (s : State) (r : RingId) (g : Ring) : (s.setRing r g).rings = s.rings.set r.val g r.isLt := rfl
@[simp] theorem State.setRing_fetcher (s : State) (r : RingId) (g : Ring) : (s.setRing r g).fetcher = s.fetcher := rfl
@[simp] theorem State.setRing_cache (s : State) (r : RingId) (g : Ring) : (s.setRing r g).cache = s.cache := rfl
@[simp] theorem State.setRing_cacheReserved (s : State) (r : RingId) (g : Ring) : (s.setRing r g).cacheReserved = s.cacheReserved := rfl
@[simp] theorem State.setRing_serviceSlot (s : State) (r : RingId) (g : Ring) : (s.setRing r g).serviceSlot = s.serviceSlot := rfl
@[simp] theorem State.setRing_serviceOwed (s : State) (r : RingId) (g : Ring) : (s.setRing r g).serviceOwed = s.serviceOwed := rfl
@[simp] theorem State.setRing_writer (s : State) (r : RingId) (g : Ring) : (s.setRing r g).writer = s.writer := rfl
@[simp] theorem State.setRing_lines (s : State) (r : RingId) (g : Ring) : (s.setRing r g).lines = s.lines := rfl
@[simp] theorem State.setRing_discarding (s : State) (r : RingId) (g : Ring) : (s.setRing r g).discarding = s.discarding := rfl
@[simp] theorem State.setRing_freeCount (s : State) (r : RingId) (g : Ring) : (s.setRing r g).freeCount = s.freeCount := rfl
@[simp] theorem State.setRing_pending (s : State) (r : RingId) (g : Ring) : (s.setRing r g).pending = s.pending := rfl

/-! `State.raise`: what it leaves and what it sets. -/

@[simp] theorem State.raise_device (s : State) (b : BitVec 4) : (s.raise b).device = s.device := rfl
@[simp] theorem State.raise_error (s : State) (b : BitVec 4) : (s.raise b).error = s.error := rfl
@[simp] theorem State.raise_errorField (s : State) (b : BitVec 4) : (s.raise b).errorField = s.errorField := rfl
@[simp] theorem State.raise_configBaseLo (s : State) (b : BitVec 4) : (s.raise b).configBaseLo = s.configBaseLo := rfl
@[simp] theorem State.raise_configBaseHi (s : State) (b : BitVec 4) : (s.raise b).configBaseHi = s.configBaseHi := rfl
@[simp] theorem State.raise_intStatus (s : State) (b : BitVec 4) : (s.raise b).intStatus = s.intStatus ||| b := rfl
@[simp] theorem State.raise_intEnable (s : State) (b : BitVec 4) : (s.raise b).intEnable = s.intEnable := rfl
@[simp] theorem State.raise_complConsumed (s : State) (b : BitVec 4) : (s.raise b).complConsumed = s.complConsumed := rfl
@[simp] theorem State.raise_stamp (s : State) (b : BitVec 4) : (s.raise b).stamp = s.stamp := rfl
@[simp] theorem State.raise_loader (s : State) (b : BitVec 4) : (s.raise b).loader = s.loader := rfl
@[simp] theorem State.raise_loaded (s : State) (b : BitVec 4) : (s.raise b).loaded = s.loaded := rfl
@[simp] theorem State.raise_rings (s : State) (b : BitVec 4) : (s.raise b).rings = s.rings := rfl
@[simp] theorem State.raise_fetcher (s : State) (b : BitVec 4) : (s.raise b).fetcher = s.fetcher := rfl
@[simp] theorem State.raise_cache (s : State) (b : BitVec 4) : (s.raise b).cache = s.cache := rfl
@[simp] theorem State.raise_cacheReserved (s : State) (b : BitVec 4) : (s.raise b).cacheReserved = s.cacheReserved := rfl
@[simp] theorem State.raise_serviceSlot (s : State) (b : BitVec 4) : (s.raise b).serviceSlot = s.serviceSlot := rfl
@[simp] theorem State.raise_serviceOwed (s : State) (b : BitVec 4) : (s.raise b).serviceOwed = s.serviceOwed := rfl
@[simp] theorem State.raise_writer (s : State) (b : BitVec 4) : (s.raise b).writer = s.writer := rfl
@[simp] theorem State.raise_lines (s : State) (b : BitVec 4) : (s.raise b).lines = s.lines := rfl
@[simp] theorem State.raise_discarding (s : State) (b : BitVec 4) : (s.raise b).discarding = s.discarding := rfl
@[simp] theorem State.raise_freeCount (s : State) (b : BitVec 4) : (s.raise b).freeCount = s.freeCount := rfl
@[simp] theorem State.raise_pending (s : State) (b : BitVec 4) : (s.raise b).pending = s.pending := rfl

/-! `State.setError`: what it leaves and what it sets. -/

@[simp] theorem State.setError_device (s : State) (e : ErrorCode) (i : BitVec 8) : (s.setError e i).device = s.device := rfl
@[simp] theorem State.setError_error (s : State) (e : ErrorCode) (i : BitVec 8) : (s.setError e i).error = e := rfl
@[simp] theorem State.setError_errorField (s : State) (e : ErrorCode) (i : BitVec 8) : (s.setError e i).errorField = i := rfl
@[simp] theorem State.setError_configBaseLo (s : State) (e : ErrorCode) (i : BitVec 8) : (s.setError e i).configBaseLo = s.configBaseLo := rfl
@[simp] theorem State.setError_configBaseHi (s : State) (e : ErrorCode) (i : BitVec 8) : (s.setError e i).configBaseHi = s.configBaseHi := rfl
@[simp] theorem State.setError_intStatus (s : State) (e : ErrorCode) (i : BitVec 8) : (s.setError e i).intStatus = s.intStatus := rfl
@[simp] theorem State.setError_intEnable (s : State) (e : ErrorCode) (i : BitVec 8) : (s.setError e i).intEnable = s.intEnable := rfl
@[simp] theorem State.setError_complConsumed (s : State) (e : ErrorCode) (i : BitVec 8) : (s.setError e i).complConsumed = s.complConsumed := rfl
@[simp] theorem State.setError_stamp (s : State) (e : ErrorCode) (i : BitVec 8) : (s.setError e i).stamp = s.stamp := rfl
@[simp] theorem State.setError_loader (s : State) (e : ErrorCode) (i : BitVec 8) : (s.setError e i).loader = s.loader := rfl
@[simp] theorem State.setError_loaded (s : State) (e : ErrorCode) (i : BitVec 8) : (s.setError e i).loaded = s.loaded := rfl
@[simp] theorem State.setError_rings (s : State) (e : ErrorCode) (i : BitVec 8) : (s.setError e i).rings = s.rings := rfl
@[simp] theorem State.setError_fetcher (s : State) (e : ErrorCode) (i : BitVec 8) : (s.setError e i).fetcher = s.fetcher := rfl
@[simp] theorem State.setError_cache (s : State) (e : ErrorCode) (i : BitVec 8) : (s.setError e i).cache = s.cache := rfl
@[simp] theorem State.setError_cacheReserved (s : State) (e : ErrorCode) (i : BitVec 8) : (s.setError e i).cacheReserved = s.cacheReserved := rfl
@[simp] theorem State.setError_serviceSlot (s : State) (e : ErrorCode) (i : BitVec 8) : (s.setError e i).serviceSlot = s.serviceSlot := rfl
@[simp] theorem State.setError_serviceOwed (s : State) (e : ErrorCode) (i : BitVec 8) : (s.setError e i).serviceOwed = s.serviceOwed := rfl
@[simp] theorem State.setError_writer (s : State) (e : ErrorCode) (i : BitVec 8) : (s.setError e i).writer = s.writer := rfl
@[simp] theorem State.setError_lines (s : State) (e : ErrorCode) (i : BitVec 8) : (s.setError e i).lines = s.lines := rfl
@[simp] theorem State.setError_discarding (s : State) (e : ErrorCode) (i : BitVec 8) : (s.setError e i).discarding = s.discarding := rfl
@[simp] theorem State.setError_freeCount (s : State) (e : ErrorCode) (i : BitVec 8) : (s.setError e i).freeCount = s.freeCount := rfl
@[simp] theorem State.setError_pending (s : State) (e : ErrorCode) (i : BitVec 8) : (s.setError e i).pending = s.pending := rfl

/-! `State.oweService`: what it leaves and what it sets. -/

@[simp] theorem State.oweService_device (s : State) (c : Completion) : (s.oweService c).device = s.device := rfl
@[simp] theorem State.oweService_error (s : State) (c : Completion) : (s.oweService c).error = s.error := rfl
@[simp] theorem State.oweService_errorField (s : State) (c : Completion) : (s.oweService c).errorField = s.errorField := rfl
@[simp] theorem State.oweService_configBaseLo (s : State) (c : Completion) : (s.oweService c).configBaseLo = s.configBaseLo := rfl
@[simp] theorem State.oweService_configBaseHi (s : State) (c : Completion) : (s.oweService c).configBaseHi = s.configBaseHi := rfl
@[simp] theorem State.oweService_intStatus (s : State) (c : Completion) : (s.oweService c).intStatus = s.intStatus := rfl
@[simp] theorem State.oweService_intEnable (s : State) (c : Completion) : (s.oweService c).intEnable = s.intEnable := rfl
@[simp] theorem State.oweService_complConsumed (s : State) (c : Completion) : (s.oweService c).complConsumed = s.complConsumed := rfl
@[simp] theorem State.oweService_stamp (s : State) (c : Completion) : (s.oweService c).stamp = s.stamp := rfl
@[simp] theorem State.oweService_loader (s : State) (c : Completion) : (s.oweService c).loader = s.loader := rfl
@[simp] theorem State.oweService_loaded (s : State) (c : Completion) : (s.oweService c).loaded = s.loaded := rfl
@[simp] theorem State.oweService_rings (s : State) (c : Completion) : (s.oweService c).rings = s.rings := rfl
@[simp] theorem State.oweService_fetcher (s : State) (c : Completion) : (s.oweService c).fetcher = s.fetcher := rfl
@[simp] theorem State.oweService_cache (s : State) (c : Completion) : (s.oweService c).cache = s.cache := rfl
@[simp] theorem State.oweService_cacheReserved (s : State) (c : Completion) : (s.oweService c).cacheReserved = s.cacheReserved := rfl
@[simp] theorem State.oweService_serviceSlot (s : State) (c : Completion) : (s.oweService c).serviceSlot = s.serviceSlot := rfl
@[simp] theorem State.oweService_serviceOwed (s : State) (c : Completion) : (s.oweService c).serviceOwed = s.serviceOwed ++ [c] := rfl
@[simp] theorem State.oweService_writer (s : State) (c : Completion) : (s.oweService c).writer = s.writer := rfl
@[simp] theorem State.oweService_lines (s : State) (c : Completion) : (s.oweService c).lines = s.lines := rfl
@[simp] theorem State.oweService_discarding (s : State) (c : Completion) : (s.oweService c).discarding = s.discarding := rfl
@[simp] theorem State.oweService_freeCount (s : State) (c : Completion) : (s.oweService c).freeCount = s.freeCount := rfl
@[simp] theorem State.oweService_pending (s : State) (c : Completion) : (s.oweService c).pending = s.pending := rfl

/-! `State.announce`: what it leaves and what it sets. -/

@[simp] theorem State.announce_device (s : State)  : (s.announce).device = s.device := rfl
@[simp] theorem State.announce_error (s : State)  : (s.announce).error = s.error := rfl
@[simp] theorem State.announce_errorField (s : State)  : (s.announce).errorField = s.errorField := rfl
@[simp] theorem State.announce_configBaseLo (s : State)  : (s.announce).configBaseLo = s.configBaseLo := rfl
@[simp] theorem State.announce_configBaseHi (s : State)  : (s.announce).configBaseHi = s.configBaseHi := rfl
@[simp] theorem State.announce_intStatus (s : State)  : (s.announce).intStatus = s.intStatus ||| causeCompletion := rfl
@[simp] theorem State.announce_intEnable (s : State)  : (s.announce).intEnable = s.intEnable := rfl
@[simp] theorem State.announce_complConsumed (s : State)  : (s.announce).complConsumed = s.complConsumed := rfl
@[simp] theorem State.announce_stamp (s : State)  : (s.announce).stamp = s.stamp := rfl
@[simp] theorem State.announce_loader (s : State)  : (s.announce).loader = s.loader := rfl
@[simp] theorem State.announce_loaded (s : State)  : (s.announce).loaded = s.loaded := rfl
@[simp] theorem State.announce_rings (s : State)  : (s.announce).rings = s.rings := rfl
@[simp] theorem State.announce_fetcher (s : State)  : (s.announce).fetcher = s.fetcher := rfl
@[simp] theorem State.announce_cache (s : State)  : (s.announce).cache = s.cache := rfl
@[simp] theorem State.announce_cacheReserved (s : State)  : (s.announce).cacheReserved = s.cacheReserved := rfl
@[simp] theorem State.announce_serviceSlot (s : State)  : (s.announce).serviceSlot = s.serviceSlot := rfl
@[simp] theorem State.announce_serviceOwed (s : State)  : (s.announce).serviceOwed = s.serviceOwed := rfl
@[simp] theorem State.announce_writer (s : State)  : (s.announce).writer = { s.writer with unannounced := 0, holdoff := none } := rfl
@[simp] theorem State.announce_lines (s : State)  : (s.announce).lines = s.lines := rfl
@[simp] theorem State.announce_discarding (s : State)  : (s.announce).discarding = s.discarding := rfl
@[simp] theorem State.announce_freeCount (s : State)  : (s.announce).freeCount = s.freeCount := rfl
@[simp] theorem State.announce_pending (s : State)  : (s.announce).pending = s.pending := rfl

/-! `Line.setEntry`: what it leaves and what it sets. -/

@[simp] theorem Line.setEntry_driver (ln : Line) (n : Node) (e : Entry) : (ln.setEntry n e).driver = ln.driver := rfl
@[simp] theorem Line.setEntry_xcvr (ln : Line) (n : Node) (e : Entry) : (ln.setEntry n e).xcvr = ln.xcvr := rfl
@[simp] theorem Line.setEntry_table (ln : Line) (n : Node) (e : Entry) : (ln.setEntry n e).table = ln.table.set n.val e n.isLt := rfl
@[simp] theorem Line.setEntry_rounds (ln : Line) (n : Node) (e : Entry) : (ln.setEntry n e).rounds = ln.rounds := rfl
@[simp] theorem Line.setEntry_engine (ln : Line) (n : Node) (e : Entry) : (ln.setEntry n e).engine = ln.engine := rfl

/-! `Line.clearEntries`: what it leaves and what it sets. -/

@[simp] theorem Line.clearEntries_driver (ln : Line)  : (ln.clearEntries).driver = ln.driver := rfl
@[simp] theorem Line.clearEntries_xcvr (ln : Line)  : (ln.clearEntries).xcvr = ln.xcvr := rfl
@[simp] theorem Line.clearEntries_table (ln : Line)  : (ln.clearEntries).table = ln.table.map (fun e => if e.state = .barred then e else e.clear) := rfl
@[simp] theorem Line.clearEntries_rounds (ln : Line)  : (ln.clearEntries).rounds = ln.rounds := rfl
@[simp] theorem Line.clearEntries_engine (ln : Line)  : (ln.clearEntries).engine = ln.engine := rfl

/-! `Line.setCont`: what it leaves and what it sets. -/

@[simp] theorem Line.setCont_driver (ln : Line) (k : Cont) : (ln.setCont k).driver = ln.driver := rfl
@[simp] theorem Line.setCont_xcvr (ln : Line) (k : Cont) : (ln.setCont k).xcvr = ln.xcvr := rfl
@[simp] theorem Line.setCont_table (ln : Line) (k : Cont) : (ln.setCont k).table = ln.table := rfl
@[simp] theorem Line.setCont_rounds (ln : Line) (k : Cont) : (ln.setCont k).rounds = ln.rounds := rfl
@[simp] theorem Line.setCont_engine_state (ln : Line) (k : Cont) : (ln.setCont k).engine.state = ln.engine.state := rfl
@[simp] theorem Line.setCont_engine_urgent (ln : Line) (k : Cont) : (ln.setCont k).engine.urgent = ln.engine.urgent := rfl
@[simp] theorem Line.setCont_engine_routine (ln : Line) (k : Cont) : (ln.setCont k).engine.routine = ln.engine.routine := rfl
@[simp] theorem Line.setCont_engine_urgentReserved (ln : Line) (k : Cont) : (ln.setCont k).engine.urgentReserved = ln.engine.urgentReserved := rfl
@[simp] theorem Line.setCont_engine_routineReserved (ln : Line) (k : Cont) : (ln.setCont k).engine.routineReserved = ln.engine.routineReserved := rfl
@[simp] theorem Line.setCont_engine_urgentBusy (ln : Line) (k : Cont) : (ln.setCont k).engine.urgentBusy = ln.engine.urgentBusy := rfl
@[simp] theorem Line.setCont_engine_urgentDeadline (ln : Line) (k : Cont) : (ln.setCont k).engine.urgentDeadline = ln.engine.urgentDeadline := rfl
@[simp] theorem Line.setCont_engine_transfer (ln : Line) (k : Cont) : (ln.setCont k).engine.transfer = ln.engine.transfer := rfl
@[simp] theorem Line.setCont_engine_collection (ln : Line) (k : Cont) : (ln.setCont k).engine.collection = ln.engine.collection := rfl
@[simp] theorem Line.setCont_engine_slot (ln : Line) (k : Cont) : (ln.setCont k).engine.slot = ln.engine.slot := rfl
@[simp] theorem Line.setCont_engine_owed (ln : Line) (k : Cont) : (ln.setCont k).engine.owed = ln.engine.owed := rfl
@[simp] theorem Line.setCont_engine_cont (ln : Line) (k : Cont) : (ln.setCont k).engine.cont = k := rfl
@[simp] theorem Line.setCont_engine_purpose (ln : Line) (k : Cont) : (ln.setCont k).engine.purpose = ln.engine.purpose := rfl
@[simp] theorem Line.setCont_engine_access (ln : Line) (k : Cont) : (ln.setCont k).engine.access = ln.engine.access := rfl
@[simp] theorem Line.setCont_engine_tripPending (ln : Line) (k : Cont) : (ln.setCont k).engine.tripPending = ln.engine.tripPending := rfl
@[simp] theorem Line.setCont_engine_lineUpOwed (ln : Line) (k : Cont) : (ln.setCont k).engine.lineUpOwed = ln.engine.lineUpOwed := rfl
@[simp] theorem Line.setCont_engine_cutOff (ln : Line) (k : Cont) : (ln.setCont k).engine.cutOff = ln.engine.cutOff := rfl

/-! `Line.endWork`: what it leaves and what it sets. -/

@[simp] theorem Line.endWork_driver (ln : Line)  : (ln.endWork).driver = ln.driver := rfl
@[simp] theorem Line.endWork_xcvr (ln : Line)  : (ln.endWork).xcvr = ln.xcvr := rfl
@[simp] theorem Line.endWork_table (ln : Line)  : (ln.endWork).table = ln.table := rfl
@[simp] theorem Line.endWork_rounds (ln : Line)  : (ln.endWork).rounds = ln.rounds := rfl
@[simp] theorem Line.endWork_engine_state (ln : Line)  : (ln.endWork).engine.state = .idle := rfl
@[simp] theorem Line.endWork_engine_urgent (ln : Line)  : (ln.endWork).engine.urgent = ln.engine.urgent := rfl
@[simp] theorem Line.endWork_engine_routine (ln : Line)  : (ln.endWork).engine.routine = ln.engine.routine := rfl
@[simp] theorem Line.endWork_engine_urgentReserved (ln : Line)  : (ln.endWork).engine.urgentReserved = ln.engine.urgentReserved := rfl
@[simp] theorem Line.endWork_engine_routineReserved (ln : Line)  : (ln.endWork).engine.routineReserved = ln.engine.routineReserved := rfl
@[simp] theorem Line.endWork_engine_urgentBusy (ln : Line)  : (ln.endWork).engine.urgentBusy = ln.engine.urgentBusy := rfl
@[simp] theorem Line.endWork_engine_urgentDeadline (ln : Line)  : (ln.endWork).engine.urgentDeadline = ln.engine.urgentDeadline := rfl
@[simp] theorem Line.endWork_engine_transfer (ln : Line)  : (ln.endWork).engine.transfer = ln.engine.transfer := rfl
@[simp] theorem Line.endWork_engine_collection (ln : Line)  : (ln.endWork).engine.collection = ln.engine.collection := rfl
@[simp] theorem Line.endWork_engine_slot (ln : Line)  : (ln.endWork).engine.slot = ln.engine.slot := rfl
@[simp] theorem Line.endWork_engine_owed (ln : Line)  : (ln.endWork).engine.owed = ln.engine.owed := rfl
@[simp] theorem Line.endWork_engine_cont (ln : Line)  : (ln.endWork).engine.cont = .boundary := rfl
@[simp] theorem Line.endWork_engine_purpose (ln : Line)  : (ln.endWork).engine.purpose = none := rfl
@[simp] theorem Line.endWork_engine_access (ln : Line)  : (ln.endWork).engine.access = none := rfl
@[simp] theorem Line.endWork_engine_tripPending (ln : Line)  : (ln.endWork).engine.tripPending = ln.engine.tripPending := rfl
@[simp] theorem Line.endWork_engine_lineUpOwed (ln : Line)  : (ln.endWork).engine.lineUpOwed = ln.engine.lineUpOwed := rfl
@[simp] theorem Line.endWork_engine_cutOff (ln : Line)  : (ln.endWork).engine.cutOff = ln.engine.cutOff := rfl

/-! `Line.startAccess`: what it leaves and what it sets. -/

@[simp] theorem Line.startAccess_driver (ln : Line) (a : HostAccess) : (ln.startAccess a).driver = ln.driver := rfl
@[simp] theorem Line.startAccess_xcvr (ln : Line) (a : HostAccess) : (ln.startAccess a).xcvr = ln.xcvr := rfl
@[simp] theorem Line.startAccess_table (ln : Line) (a : HostAccess) : (ln.startAccess a).table = ln.table := rfl
@[simp] theorem Line.startAccess_rounds (ln : Line) (a : HostAccess) : (ln.startAccess a).rounds = ln.rounds := rfl
@[simp] theorem Line.startAccess_engine_state (ln : Line) (a : HostAccess) : (ln.startAccess a).engine.state = .exchanging := rfl
@[simp] theorem Line.startAccess_engine_urgent (ln : Line) (a : HostAccess) : (ln.startAccess a).engine.urgent = ln.engine.urgent := rfl
@[simp] theorem Line.startAccess_engine_routine (ln : Line) (a : HostAccess) : (ln.startAccess a).engine.routine = ln.engine.routine := rfl
@[simp] theorem Line.startAccess_engine_urgentReserved (ln : Line) (a : HostAccess) : (ln.startAccess a).engine.urgentReserved = ln.engine.urgentReserved := rfl
@[simp] theorem Line.startAccess_engine_routineReserved (ln : Line) (a : HostAccess) : (ln.startAccess a).engine.routineReserved = ln.engine.routineReserved := rfl
@[simp] theorem Line.startAccess_engine_urgentBusy (ln : Line) (a : HostAccess) : (ln.startAccess a).engine.urgentBusy = ln.engine.urgentBusy := rfl
@[simp] theorem Line.startAccess_engine_urgentDeadline (ln : Line) (a : HostAccess) : (ln.startAccess a).engine.urgentDeadline = ln.engine.urgentDeadline := rfl
@[simp] theorem Line.startAccess_engine_transfer (ln : Line) (a : HostAccess) : (ln.startAccess a).engine.transfer = ln.engine.transfer := rfl
@[simp] theorem Line.startAccess_engine_collection (ln : Line) (a : HostAccess) : (ln.startAccess a).engine.collection = ln.engine.collection := rfl
@[simp] theorem Line.startAccess_engine_slot (ln : Line) (a : HostAccess) : (ln.startAccess a).engine.slot = ln.engine.slot := rfl
@[simp] theorem Line.startAccess_engine_owed (ln : Line) (a : HostAccess) : (ln.startAccess a).engine.owed = ln.engine.owed := rfl
@[simp] theorem Line.startAccess_engine_cont (ln : Line) (a : HostAccess) : (ln.startAccess a).engine.cont = .boundary := rfl
@[simp] theorem Line.startAccess_engine_purpose (ln : Line) (a : HostAccess) : (ln.startAccess a).engine.purpose = ln.engine.purpose := rfl
@[simp] theorem Line.startAccess_engine_access (ln : Line) (a : HostAccess) : (ln.startAccess a).engine.access = some a := rfl
@[simp] theorem Line.startAccess_engine_tripPending (ln : Line) (a : HostAccess) : (ln.startAccess a).engine.tripPending = ln.engine.tripPending := rfl
@[simp] theorem Line.startAccess_engine_lineUpOwed (ln : Line) (a : HostAccess) : (ln.startAccess a).engine.lineUpOwed = ln.engine.lineUpOwed := rfl
@[simp] theorem Line.startAccess_engine_cutOff (ln : Line) (a : HostAccess) : (ln.startAccess a).engine.cutOff = ln.engine.cutOff := rfl

/-! `Line.setTransfer`: what it leaves and what it sets. -/

@[simp] theorem Line.setTransfer_driver (ln : Line) (t : Transfer) : (ln.setTransfer t).driver = ln.driver := rfl
@[simp] theorem Line.setTransfer_xcvr (ln : Line) (t : Transfer) : (ln.setTransfer t).xcvr = ln.xcvr := rfl
@[simp] theorem Line.setTransfer_table (ln : Line) (t : Transfer) : (ln.setTransfer t).table = ln.table := rfl
@[simp] theorem Line.setTransfer_rounds (ln : Line) (t : Transfer) : (ln.setTransfer t).rounds = ln.rounds := rfl
@[simp] theorem Line.setTransfer_engine_state (ln : Line) (t : Transfer) : (ln.setTransfer t).engine.state = ln.engine.state := rfl
@[simp] theorem Line.setTransfer_engine_urgent (ln : Line) (t : Transfer) : (ln.setTransfer t).engine.urgent = ln.engine.urgent := rfl
@[simp] theorem Line.setTransfer_engine_routine (ln : Line) (t : Transfer) : (ln.setTransfer t).engine.routine = ln.engine.routine := rfl
@[simp] theorem Line.setTransfer_engine_urgentReserved (ln : Line) (t : Transfer) : (ln.setTransfer t).engine.urgentReserved = ln.engine.urgentReserved := rfl
@[simp] theorem Line.setTransfer_engine_routineReserved (ln : Line) (t : Transfer) : (ln.setTransfer t).engine.routineReserved = ln.engine.routineReserved := rfl
@[simp] theorem Line.setTransfer_engine_urgentBusy (ln : Line) (t : Transfer) : (ln.setTransfer t).engine.urgentBusy = ln.engine.urgentBusy := rfl
@[simp] theorem Line.setTransfer_engine_urgentDeadline (ln : Line) (t : Transfer) : (ln.setTransfer t).engine.urgentDeadline = ln.engine.urgentDeadline := rfl
@[simp] theorem Line.setTransfer_engine_transfer (ln : Line) (t : Transfer) : (ln.setTransfer t).engine.transfer = some t := rfl
@[simp] theorem Line.setTransfer_engine_collection (ln : Line) (t : Transfer) : (ln.setTransfer t).engine.collection = ln.engine.collection := rfl
@[simp] theorem Line.setTransfer_engine_slot (ln : Line) (t : Transfer) : (ln.setTransfer t).engine.slot = ln.engine.slot := rfl
@[simp] theorem Line.setTransfer_engine_owed (ln : Line) (t : Transfer) : (ln.setTransfer t).engine.owed = ln.engine.owed := rfl
@[simp] theorem Line.setTransfer_engine_cont (ln : Line) (t : Transfer) : (ln.setTransfer t).engine.cont = ln.engine.cont := rfl
@[simp] theorem Line.setTransfer_engine_purpose (ln : Line) (t : Transfer) : (ln.setTransfer t).engine.purpose = ln.engine.purpose := rfl
@[simp] theorem Line.setTransfer_engine_access (ln : Line) (t : Transfer) : (ln.setTransfer t).engine.access = ln.engine.access := rfl
@[simp] theorem Line.setTransfer_engine_tripPending (ln : Line) (t : Transfer) : (ln.setTransfer t).engine.tripPending = ln.engine.tripPending := rfl
@[simp] theorem Line.setTransfer_engine_lineUpOwed (ln : Line) (t : Transfer) : (ln.setTransfer t).engine.lineUpOwed = ln.engine.lineUpOwed := rfl
@[simp] theorem Line.setTransfer_engine_cutOff (ln : Line) (t : Transfer) : (ln.setTransfer t).engine.cutOff = ln.engine.cutOff := rfl

/-! `Line.produceWith`: what it leaves and what it sets. -/

@[simp] theorem Line.produceWith_driver (ln : Line) (c : Completion) (e : PlaceEffect) : (ln.produceWith c e).driver = ln.driver := rfl
@[simp] theorem Line.produceWith_xcvr (ln : Line) (c : Completion) (e : PlaceEffect) : (ln.produceWith c e).xcvr = ln.xcvr := rfl
@[simp] theorem Line.produceWith_table (ln : Line) (c : Completion) (e : PlaceEffect) : (ln.produceWith c e).table = ln.table := rfl
@[simp] theorem Line.produceWith_rounds (ln : Line) (c : Completion) (e : PlaceEffect) : (ln.produceWith c e).rounds = ln.rounds := rfl
@[simp] theorem Line.produceWith_engine_state (ln : Line) (c : Completion) (e : PlaceEffect) : (ln.produceWith c e).engine.state = ln.engine.state := rfl
@[simp] theorem Line.produceWith_engine_urgent (ln : Line) (c : Completion) (e : PlaceEffect) : (ln.produceWith c e).engine.urgent = ln.engine.urgent := rfl
@[simp] theorem Line.produceWith_engine_routine (ln : Line) (c : Completion) (e : PlaceEffect) : (ln.produceWith c e).engine.routine = ln.engine.routine := rfl
@[simp] theorem Line.produceWith_engine_urgentReserved (ln : Line) (c : Completion) (e : PlaceEffect) : (ln.produceWith c e).engine.urgentReserved = ln.engine.urgentReserved := rfl
@[simp] theorem Line.produceWith_engine_routineReserved (ln : Line) (c : Completion) (e : PlaceEffect) : (ln.produceWith c e).engine.routineReserved = ln.engine.routineReserved := rfl
@[simp] theorem Line.produceWith_engine_urgentBusy (ln : Line) (c : Completion) (e : PlaceEffect) : (ln.produceWith c e).engine.urgentBusy = ln.engine.urgentBusy := rfl
@[simp] theorem Line.produceWith_engine_urgentDeadline (ln : Line) (c : Completion) (e : PlaceEffect) : (ln.produceWith c e).engine.urgentDeadline = ln.engine.urgentDeadline := rfl
@[simp] theorem Line.produceWith_engine_transfer (ln : Line) (c : Completion) (e : PlaceEffect) : (ln.produceWith c e).engine.transfer = ln.engine.transfer := rfl
@[simp] theorem Line.produceWith_engine_collection (ln : Line) (c : Completion) (e : PlaceEffect) : (ln.produceWith c e).engine.collection = ln.engine.collection := rfl
@[simp] theorem Line.produceWith_engine_slot (ln : Line) (c : Completion) (e : PlaceEffect) : (ln.produceWith c e).engine.slot = ln.engine.slot := rfl
@[simp] theorem Line.produceWith_engine_owed (ln : Line) (c : Completion) (e : PlaceEffect) : (ln.produceWith c e).engine.owed = ln.engine.owed ++ [⟨c, e⟩] := rfl
@[simp] theorem Line.produceWith_engine_cont (ln : Line) (c : Completion) (e : PlaceEffect) : (ln.produceWith c e).engine.cont = ln.engine.cont := rfl
@[simp] theorem Line.produceWith_engine_purpose (ln : Line) (c : Completion) (e : PlaceEffect) : (ln.produceWith c e).engine.purpose = ln.engine.purpose := rfl
@[simp] theorem Line.produceWith_engine_access (ln : Line) (c : Completion) (e : PlaceEffect) : (ln.produceWith c e).engine.access = ln.engine.access := rfl
@[simp] theorem Line.produceWith_engine_tripPending (ln : Line) (c : Completion) (e : PlaceEffect) : (ln.produceWith c e).engine.tripPending = ln.engine.tripPending := rfl
@[simp] theorem Line.produceWith_engine_lineUpOwed (ln : Line) (c : Completion) (e : PlaceEffect) : (ln.produceWith c e).engine.lineUpOwed = ln.engine.lineUpOwed := rfl
@[simp] theorem Line.produceWith_engine_cutOff (ln : Line) (c : Completion) (e : PlaceEffect) : (ln.produceWith c e).engine.cutOff = ln.engine.cutOff := rfl

/-! `Line.produce`: what it leaves and what it sets. -/

@[simp] theorem Line.produce_driver (ln : Line) (c : Completion) : (ln.produce c).driver = ln.driver := rfl
@[simp] theorem Line.produce_xcvr (ln : Line) (c : Completion) : (ln.produce c).xcvr = ln.xcvr := rfl
@[simp] theorem Line.produce_table (ln : Line) (c : Completion) : (ln.produce c).table = ln.table := rfl
@[simp] theorem Line.produce_rounds (ln : Line) (c : Completion) : (ln.produce c).rounds = ln.rounds := rfl
@[simp] theorem Line.produce_engine_state (ln : Line) (c : Completion) : (ln.produce c).engine.state = ln.engine.state := rfl
@[simp] theorem Line.produce_engine_urgent (ln : Line) (c : Completion) : (ln.produce c).engine.urgent = ln.engine.urgent := rfl
@[simp] theorem Line.produce_engine_routine (ln : Line) (c : Completion) : (ln.produce c).engine.routine = ln.engine.routine := rfl
@[simp] theorem Line.produce_engine_urgentReserved (ln : Line) (c : Completion) : (ln.produce c).engine.urgentReserved = ln.engine.urgentReserved := rfl
@[simp] theorem Line.produce_engine_routineReserved (ln : Line) (c : Completion) : (ln.produce c).engine.routineReserved = ln.engine.routineReserved := rfl
@[simp] theorem Line.produce_engine_urgentBusy (ln : Line) (c : Completion) : (ln.produce c).engine.urgentBusy = ln.engine.urgentBusy := rfl
@[simp] theorem Line.produce_engine_urgentDeadline (ln : Line) (c : Completion) : (ln.produce c).engine.urgentDeadline = ln.engine.urgentDeadline := rfl
@[simp] theorem Line.produce_engine_transfer (ln : Line) (c : Completion) : (ln.produce c).engine.transfer = ln.engine.transfer := rfl
@[simp] theorem Line.produce_engine_collection (ln : Line) (c : Completion) : (ln.produce c).engine.collection = ln.engine.collection := rfl
@[simp] theorem Line.produce_engine_slot (ln : Line) (c : Completion) : (ln.produce c).engine.slot = ln.engine.slot := rfl
@[simp] theorem Line.produce_engine_owed (ln : Line) (c : Completion) : (ln.produce c).engine.owed = ln.engine.owed ++ [⟨c, .none⟩] := rfl
@[simp] theorem Line.produce_engine_cont (ln : Line) (c : Completion) : (ln.produce c).engine.cont = ln.engine.cont := rfl
@[simp] theorem Line.produce_engine_purpose (ln : Line) (c : Completion) : (ln.produce c).engine.purpose = ln.engine.purpose := rfl
@[simp] theorem Line.produce_engine_access (ln : Line) (c : Completion) : (ln.produce c).engine.access = ln.engine.access := rfl
@[simp] theorem Line.produce_engine_tripPending (ln : Line) (c : Completion) : (ln.produce c).engine.tripPending = ln.engine.tripPending := rfl
@[simp] theorem Line.produce_engine_lineUpOwed (ln : Line) (c : Completion) : (ln.produce c).engine.lineUpOwed = ln.engine.lineUpOwed := rfl
@[simp] theorem Line.produce_engine_cutOff (ln : Line) (c : Completion) : (ln.produce c).engine.cutOff = ln.engine.cutOff := rfl

/-! `Line.postLineUp`: what it leaves and what it sets. -/

@[simp] theorem Line.postLineUp_driver (ln : Line) (l : LineId) : (ln.postLineUp l).driver = ln.driver := rfl
@[simp] theorem Line.postLineUp_xcvr (ln : Line) (l : LineId) : (ln.postLineUp l).xcvr = ln.xcvr := rfl
@[simp] theorem Line.postLineUp_table (ln : Line) (l : LineId) : (ln.postLineUp l).table = ln.table := rfl
@[simp] theorem Line.postLineUp_rounds (ln : Line) (l : LineId) : (ln.postLineUp l).rounds = ln.rounds := rfl
@[simp] theorem Line.postLineUp_engine_state (ln : Line) (l : LineId) : (ln.postLineUp l).engine.state = ln.engine.state := rfl
@[simp] theorem Line.postLineUp_engine_urgent (ln : Line) (l : LineId) : (ln.postLineUp l).engine.urgent = ln.engine.urgent := rfl
@[simp] theorem Line.postLineUp_engine_routine (ln : Line) (l : LineId) : (ln.postLineUp l).engine.routine = ln.engine.routine := rfl
@[simp] theorem Line.postLineUp_engine_urgentReserved (ln : Line) (l : LineId) : (ln.postLineUp l).engine.urgentReserved = ln.engine.urgentReserved := rfl
@[simp] theorem Line.postLineUp_engine_routineReserved (ln : Line) (l : LineId) : (ln.postLineUp l).engine.routineReserved = ln.engine.routineReserved := rfl
@[simp] theorem Line.postLineUp_engine_urgentBusy (ln : Line) (l : LineId) : (ln.postLineUp l).engine.urgentBusy = ln.engine.urgentBusy := rfl
@[simp] theorem Line.postLineUp_engine_urgentDeadline (ln : Line) (l : LineId) : (ln.postLineUp l).engine.urgentDeadline = ln.engine.urgentDeadline := rfl
@[simp] theorem Line.postLineUp_engine_transfer (ln : Line) (l : LineId) : (ln.postLineUp l).engine.transfer = ln.engine.transfer := rfl
@[simp] theorem Line.postLineUp_engine_collection (ln : Line) (l : LineId) : (ln.postLineUp l).engine.collection = ln.engine.collection := rfl
@[simp] theorem Line.postLineUp_engine_slot (ln : Line) (l : LineId) : (ln.postLineUp l).engine.slot = some (lineEvent l .lineUp ln.driver.restartsLeft) := rfl
@[simp] theorem Line.postLineUp_engine_owed (ln : Line) (l : LineId) : (ln.postLineUp l).engine.owed = ln.engine.owed := rfl
@[simp] theorem Line.postLineUp_engine_cont (ln : Line) (l : LineId) : (ln.postLineUp l).engine.cont = ln.engine.cont := rfl
@[simp] theorem Line.postLineUp_engine_purpose (ln : Line) (l : LineId) : (ln.postLineUp l).engine.purpose = ln.engine.purpose := rfl
@[simp] theorem Line.postLineUp_engine_access (ln : Line) (l : LineId) : (ln.postLineUp l).engine.access = ln.engine.access := rfl
@[simp] theorem Line.postLineUp_engine_tripPending (ln : Line) (l : LineId) : (ln.postLineUp l).engine.tripPending = ln.engine.tripPending := rfl
@[simp] theorem Line.postLineUp_engine_lineUpOwed (ln : Line) (l : LineId) : (ln.postLineUp l).engine.lineUpOwed = false := rfl
@[simp] theorem Line.postLineUp_engine_cutOff (ln : Line) (l : LineId) : (ln.postLineUp l).engine.cutOff = ln.engine.cutOff := rfl

/-! `Line.leaveUp`: what it leaves and what it sets. -/

@[simp] theorem Line.leaveUp_driver (ln : Line)  : (ln.leaveUp).driver = ln.driver := rfl
@[simp] theorem Line.leaveUp_xcvr (ln : Line)  : (ln.leaveUp).xcvr = ln.xcvr := rfl
@[simp] theorem Line.leaveUp_table (ln : Line)  : (ln.leaveUp).table = ln.table := rfl
@[simp] theorem Line.leaveUp_rounds (ln : Line)  : (ln.leaveUp).rounds = { ln.rounds with pollTimer := none, pending := false, round := none, rejoin := none } := rfl
@[simp] theorem Line.leaveUp_engine_state (ln : Line)  : (ln.leaveUp).engine.state = ln.engine.state := rfl
@[simp] theorem Line.leaveUp_engine_urgent (ln : Line)  : (ln.leaveUp).engine.urgent = ln.engine.urgent := rfl
@[simp] theorem Line.leaveUp_engine_routine (ln : Line)  : (ln.leaveUp).engine.routine = ln.engine.routine := rfl
@[simp] theorem Line.leaveUp_engine_urgentReserved (ln : Line)  : (ln.leaveUp).engine.urgentReserved = ln.engine.urgentReserved := rfl
@[simp] theorem Line.leaveUp_engine_routineReserved (ln : Line)  : (ln.leaveUp).engine.routineReserved = ln.engine.routineReserved := rfl
@[simp] theorem Line.leaveUp_engine_urgentBusy (ln : Line)  : (ln.leaveUp).engine.urgentBusy = ln.engine.urgentBusy := rfl
@[simp] theorem Line.leaveUp_engine_urgentDeadline (ln : Line)  : (ln.leaveUp).engine.urgentDeadline = none := rfl
@[simp] theorem Line.leaveUp_engine_transfer (ln : Line)  : (ln.leaveUp).engine.transfer = ln.engine.transfer.map (fun t => { t with deadline := none }) := rfl
@[simp] theorem Line.leaveUp_engine_collection (ln : Line)  : (ln.leaveUp).engine.collection = ln.engine.collection.filter (fun k => k.buffer.isSome) := rfl
@[simp] theorem Line.leaveUp_engine_slot (ln : Line)  : (ln.leaveUp).engine.slot = ln.engine.slot := rfl
@[simp] theorem Line.leaveUp_engine_owed (ln : Line)  : (ln.leaveUp).engine.owed = ln.engine.owed := rfl
@[simp] theorem Line.leaveUp_engine_cont (ln : Line)  : (ln.leaveUp).engine.cont = ln.engine.cont := rfl
@[simp] theorem Line.leaveUp_engine_purpose (ln : Line)  : (ln.leaveUp).engine.purpose = ln.engine.purpose := rfl
@[simp] theorem Line.leaveUp_engine_access (ln : Line)  : (ln.leaveUp).engine.access = ln.engine.access := rfl
@[simp] theorem Line.leaveUp_engine_tripPending (ln : Line)  : (ln.leaveUp).engine.tripPending = ln.engine.tripPending := rfl
@[simp] theorem Line.leaveUp_engine_lineUpOwed (ln : Line)  : (ln.leaveUp).engine.lineUpOwed = ln.engine.lineUpOwed := rfl
@[simp] theorem Line.leaveUp_engine_cutOff (ln : Line)  : (ln.leaveUp).engine.cutOff = ln.engine.cutOff := rfl

/-! `Line.powerUp`: what it leaves and what it sets. -/

@[simp] theorem Line.powerUp_driver (ln : Line) (cfg : LineConfig) : (ln.powerUp cfg).driver = { ln.driver.applySupply cfg with restartsLeft := cfg.restartBudget } := rfl
@[simp] theorem Line.powerUp_xcvr (ln : Line) (cfg : LineConfig) : (ln.powerUp cfg).xcvr = ln.xcvr := rfl
@[simp] theorem Line.powerUp_table (ln : Line) (cfg : LineConfig) : (ln.powerUp cfg).table = ln.table := rfl
@[simp] theorem Line.powerUp_rounds (ln : Line) (cfg : LineConfig) : (ln.powerUp cfg).rounds = ln.rounds := rfl
@[simp] theorem Line.powerUp_engine (ln : Line) (cfg : LineConfig) : (ln.powerUp cfg).engine = ln.engine := rfl

/-! Reading back after an update. -/

@[simp] theorem State.line_setLine_self (s : State) (l : LineId) (ln : Line) : (s.setLine l ln).line l = ln := by
  simp [State.line, State.setLine, Vector.get_eq_getElem]

theorem State.line_setLine_of_ne (s : State) {l m : LineId} (ln : Line) (h : m ≠ l) :
    (s.setLine l ln).line m = s.line m := by
  have hv : l.val ≠ m.val := fun e => h (Fin.ext e.symm)
  simp [State.line, State.setLine, Vector.get_eq_getElem, hv]

theorem State.line_setLine (s : State) (l m : LineId) (ln : Line) :
    (s.setLine l ln).line m = if m = l then ln else s.line m := by
  split
  · next h => subst h; exact s.line_setLine_self m ln
  · next h => exact s.line_setLine_of_ne ln h

@[simp] theorem State.line_mapLines (s : State) (f : Line → Line) (l : LineId) :
    (s.mapLines f).line l = f (s.line l) := by
  simp [State.line, State.mapLines, Vector.get_eq_getElem]

/-- A line is read from the list of lines alone. -/
theorem State.line_congr {s t : State} (h : s.lines = t.lines) (l : LineId) : s.line l = t.line l := by
  simp [State.line, h]

theorem State.ring_setRing (s : State) (r q : RingId) (g : Ring) :
    (s.setRing r g).ring q = if q = r then g else s.ring q := by
  by_cases h : q = r
  · subst h; simp [State.ring, State.setRing, Vector.get_eq_getElem]
  · have hv : r.val ≠ q.val := fun e => h (Fin.ext e.symm)
    simp [State.ring, State.setRing, Vector.get_eq_getElem, hv, h]

theorem Line.entry_setEntry (ln : Line) (n m : Node) (e : Entry) :
    (ln.setEntry n e).entry m = if m = n then e else ln.entry m := by
  by_cases h : m = n
  · subst h; simp [Line.entry, Line.setEntry, Vector.get_eq_getElem]
  · have hv : n.val ≠ m.val := fun e => h (Fin.ext e.symm)
    simp [Line.entry, Line.setEntry, Vector.get_eq_getElem, hv, h]

@[simp] theorem Line.entry_clearEntries (ln : Line) (n : Node) :
    ln.clearEntries.entry n = if (ln.entry n).state = .barred then ln.entry n else (ln.entry n).clear := by
  by_cases h : (ln.entry n).state = .barred
  · rw [if_pos h]
    simp only [Line.entry, Vector.get_eq_getElem] at h
    simp [Line.entry, Line.clearEntries, Vector.get_eq_getElem, h]
  · rw [if_neg h]
    simp only [Line.entry, Vector.get_eq_getElem] at h
    simp [Line.entry, Line.clearEntries, Vector.get_eq_getElem, h]

/-- An entry is read from the table alone. -/
theorem Line.entry_congr {a b : Line} (h : a.table = b.table) (n : Node) : a.entry n = b.entry n := by
  simp [Line.entry, h]

end Sys2Proof.Machine
end

