-- ==== Sys2Proof/Laws/Ops.lean ====
section
/-! SUPPORT. One lemma per shared operation of Machine/Ops.lean: everything it can do, cited by later proofs in place of
unfolding it. -/

namespace Sys2Proof.Machine

/-- Producing several records appends them, in order, and changes nothing else (R93). -/
theorem Line.produceAll_eq (cs : List Completion) (ln : Line) :
    ln.produceAll cs = { ln with engine := { ln.engine with owed := ln.engine.owed ++ cs.map (fun c => ⟨c, .none⟩) } } := by
  unfold Line.produceAll
  induction cs generalizing ln with
  | nil => simp
  | cons c cs ih => rw [List.foldl_cons, ih]; simp [Line.produce, Line.produceWith]

/-- Completing the urgent head: nothing without a head, otherwise its RESULT is owed last and the record behind it is the
head with a fresh head state (R88). -/
theorem Line.completeUrgent_cases (ln : Line) (l : LineId) (code : Code) (count : Nat) (detail : BitVec 32) :
    (ln.engine.urgent = [] ∧ ln.completeUrgent l code count detail = ln) ∨
      ∃ r rest, ln.engine.urgent = r :: rest ∧
        ln.completeUrgent l code count detail =
          { ln with engine := { ln.engine with
              urgent := rest, urgentBusy := 0, urgentDeadline := none, cutOff := false,
              owed := ln.engine.owed ++ [⟨resultRecord l r code count detail, .none⟩] } } := by
  unfold Line.completeUrgent
  split
  · next h => exact .inl ⟨h, rfl⟩
  · next r rest h => exact .inr ⟨r, rest, h, rfl⟩

/-- Completing the routine head: the transfer context is absent afterwards, and a head's RESULT is owed last (R87, R96). -/
theorem Line.completeRoutine_cases (ln : Line) (l : LineId) (code : Code) (count : Nat) (detail : BitVec 32) :
    (ln.engine.routine = [] ∧
        ln.completeRoutine l code count detail = { ln with engine := { ln.engine with transfer := none } }) ∨
      ∃ r rest, ln.engine.routine = r :: rest ∧
        ln.completeRoutine l code count detail =
          { ln with engine := { ln.engine with
              routine := rest, transfer := none,
              owed := ln.engine.owed ++ [⟨resultRecord l r code count detail, .none⟩] } } := by
  unfold Line.completeRoutine
  split
  · next h => exact .inl ⟨h, rfl⟩
  · next r rest h => exact .inr ⟨r, rest, h, rfl⟩

/-- Ending a collection: nothing without one; one without a buffer is dropped; a buffer is returned in an ARRIVAL, owed
last (R137, R138). -/
theorem Line.returnCollection_cases (ln : Line) (l : LineId) (code : Code) :
    (ln.engine.collection = none ∧ ln.returnCollection l code = ln) ∨
      (∃ k, ln.engine.collection = some k ∧ k.buffer = none ∧
        ln.returnCollection l code = { ln with engine := { ln.engine with collection := none } }) ∨
      ∃ k b, ln.engine.collection = some k ∧ k.buffer = some b ∧
        ln.returnCollection l code =
          { ln with engine := { ln.engine with
              collection := none,
              owed := ln.engine.owed ++
                [⟨arrivalRecord l (BitVec.ofNat 8 (Node.address k.node)) code b.id k.bytesWritten, .none⟩] } } := by
  unfold Line.returnCollection
  split
  · next h => exact .inl ⟨h, rfl⟩
  · next k h =>
    dsimp only
    split
    · next hb => exact .inr (.inl ⟨k, h, hb, rfl⟩)
    · next b hb => exact .inr (.inr ⟨k, b, h, hb, rfl⟩)

/-- The active record completes with its bytes done; without one nothing happens (R97). -/
theorem Line.completeActive_eq (ln : Line) (l : LineId) (code : Code) (detail : BitVec 32) :
    (ln.engine.transfer = none ∧ ln.completeActive l code detail = ln) ∨
      ∃ t, ln.engine.transfer = some t ∧ ln.completeActive l code detail = ln.completeRoutine l code t.bytesDone detail := by
  unfold Line.completeActive
  split
  · next h => exact .inl ⟨h, rfl⟩
  · next t h => exact .inr ⟨t, h, rfl⟩

/-- Placing a record: it is in the slot, the rest stays owed, and the change tied to it is made (R93). -/
theorem Line.place_cases (ln : Line) (o : Owed) (rest : List Owed) :
    (o.effect = .none ∧
        ln.place o rest = { ln with engine := { ln.engine with slot := some o.record, owed := rest } }) ∨
      (o.effect = .clearEntries ∧
        ln.place o rest = { ln.clearEntries with engine := { ln.engine with slot := some o.record, owed := rest } }) ∨
      (o.effect = .driverFailed ∧
        ln.place o rest = { ln with
          driver := { ln.driver with state := .failed },
          engine := { ln.engine with slot := some o.record, owed := rest, tripPending := false } }) := by
  unfold Line.place
  cases h : o.effect
  · exact .inl ⟨rfl, rfl⟩
  · exact .inr (.inl ⟨rfl, rfl⟩)
  · exact .inr (.inr ⟨rfl, rfl⟩)

/-- Handing an exchange over: refused to a BARRED entry, FAILED with cause TRIP where the driver is not UP, and otherwise
its first attempt's frame begins (R10, R12, R51). -/
theorem Line.handOver_cases (ln : Line) (p : Purpose) (f : Frame) :
    ((ln.entry f.node).state = .barred ∧ ln.handOver p f = ln.endWork) ∨
      ((ln.entry f.node).state ≠ .barred ∧ ln.driver.state = .up ∧
        ln.handOver p f = { ln with
          xcvr := { state := .sending, frame := some f, attempts := 0, garbled := 0, window := none },
          engine := { ln.engine with state := .exchanging, purpose := some p, access := none, cont := .boundary } }) ∨
      ((ln.entry f.node).state ≠ .barred ∧ ln.driver.state ≠ .up ∧ ln.handOver p f = ln.exchangeTripped p) := by
  unfold Line.handOver
  split
  · next h => exact .inl ⟨h, rfl⟩
  · next h =>
    split
    · next hu => exact .inr (.inl ⟨h, hu, rfl⟩)
    · next hu => exact .inr (.inr ⟨h, hu, rfl⟩)

/-- An exchange that ends FAILED with cause TRIP: the Transceiver is IDLE, the engine's work is over, and only the note of a
cut-off urgent SEND or PROBE is left (R12, R13, R29). -/
theorem Line.exchangeTripped_eq (ln : Line) (p : Purpose) :
    ln.exchangeTripped p =
      { ln.endWork with
        xcvr := Transceiver.initial,
        engine := { ln.endWork.engine with
          cutOff := ln.engine.cutOff || p == .urgentSend || p == .urgentProbe } } := by
  have h1 : (Purpose.poll == Purpose.urgentSend) = false := by decide
  have h2 : (Purpose.poll == Purpose.urgentProbe) = false := by decide
  unfold Line.exchangeTripped
  cases p <;> simp [Line.endWork] <;> first | done | decide | (cases ln.engine.cutOff <;> decide)

/-- Switching a line OFF: the driver is OFF with both timers stopped, and the line leaves UP if it was UP (R34). -/
theorem Line.turnOff_cases (ln : Line) :
    (ln.driver.state = .up ∧ ln.turnOff = { ln.leaveUp with driver := ln.driver.turnOff }) ∨
      (ln.driver.state ≠ .up ∧ ln.turnOff = { ln with driver := ln.driver.turnOff }) := by
  unfold Line.turnOff
  dsimp only
  split
  · next h => exact .inl ⟨h, rfl⟩
  · next h => exact .inr ⟨h, rfl⟩

end Sys2Proof.Machine
end

