-- ==== Sys2Proof/Laws/PerInstr.lean ====
section
/-! SUPPORT. Statements made for every command, one lemma per constructor of `Instr`. -/

namespace Sys2Proof.Laws

/-- Every host write to the register window is a well-formed command: whatever the offset, width and value, the row that
`commandOfWrite` names passes the check of its row (11 section 11.5, R171). -/
def WindowWrite.Statement (i : Instr) : Prop :=
  ∀ (offset : BitVec 6) (size : AccessSize) (value : Word), commandOfWrite offset size value = i → i.wellFormed = true

/-- A host write to the window is one of five forms of command (R171). -/
theorem commandOfWrite_cases (offset : BitVec 6) (size : AccessSize) (value : Word) :
    commandOfWrite offset size value ∈ [Instr.start, .stop, .reset, .controlNoCommand] ∨
      commandOfWrite offset size value = .post value ∨ commandOfWrite offset size value = .complConsumed value ∨
      commandOfWrite offset size value = .intStatusWrite value ∨
      (commandOfWrite offset size value = .registerWrite offset size value ∧
        (size = .word → ownRowOffset offset = false)) := by
  cases size with
  | byte => simp [commandOfWrite]
  | half => simp [commandOfWrite]
  | three => simp [commandOfWrite]
  | word =>
    unfold commandOfWrite controlCommand ownRowOffset
    repeat' split
    all_goals simp_all

theorem WindowWrite.powerOn : WindowWrite.Statement .powerOn := fun _ _ _ _ => rfl
theorem WindowWrite.start : WindowWrite.Statement .start := fun _ _ _ _ => rfl
theorem WindowWrite.stop : WindowWrite.Statement .stop := fun _ _ _ _ => rfl
theorem WindowWrite.reset : WindowWrite.Statement .reset := fun _ _ _ _ => rfl
theorem WindowWrite.controlNoCommand : WindowWrite.Statement .controlNoCommand := fun _ _ _ _ => rfl
theorem WindowWrite.post (value : Word) : WindowWrite.Statement (.post value) := fun _ _ _ _ => rfl
theorem WindowWrite.complConsumed (value : Word) : WindowWrite.Statement (.complConsumed value) := fun _ _ _ _ => rfl
theorem WindowWrite.intStatusWrite (value : Word) : WindowWrite.Statement (.intStatusWrite value) :=
  fun _ _ _ _ => rfl
theorem WindowWrite.registerWrite (offset : BitVec 6) (size : AccessSize) (value : Word) : WindowWrite.Statement (.registerWrite offset size value) :=
  by
  intro o z v h
  rcases commandOfWrite_cases o z v with h' | h' | h' | h' | ⟨h', hw⟩ <;> rw [h] at h'
  · simp at h'
  · simp at h'
  · simp at h'
  · simp at h'
  · cases h'
    cases size <;> simp_all [Instr.wellFormed]
theorem WindowWrite.configReadDone (read : LoadEnd) : WindowWrite.Statement (.configReadDone read) := by
  intro o z v h
  rcases commandOfWrite_cases o z v with h' | h' | h' | h' | ⟨h', -⟩ <;> rw [h] at h' <;> simp at h'
theorem WindowWrite.settleTimerExpiry (line : LineId) : WindowWrite.Statement (.settleTimerExpiry line) :=
  fun _ _ _ _ => rfl
theorem WindowWrite.cooldownTimerExpiry (line : LineId) : WindowWrite.Statement (.cooldownTimerExpiry line) :=
  fun _ _ _ _ => rfl
theorem WindowWrite.overcurrentTrip (line : LineId) : WindowWrite.Statement (.overcurrentTrip line) :=
  fun _ _ _ _ => rfl
theorem WindowWrite.pollTimerExpiry (line : LineId) : WindowWrite.Statement (.pollTimerExpiry line) :=
  fun _ _ _ _ => rfl
theorem WindowWrite.busyBackoffExpiry (line : LineId) (side : QueueSide) : WindowWrite.Statement (.busyBackoffExpiry line side) :=
  fun _ _ _ _ => rfl
theorem WindowWrite.holdoffExpiry : WindowWrite.Statement .holdoffExpiry := fun _ _ _ _ => rfl
theorem WindowWrite.frameSent (line : LineId) : WindowWrite.Statement (.frameSent line) := fun _ _ _ _ => rfl
theorem WindowWrite.replyWindowClose (line : LineId) : WindowWrite.Statement (.replyWindowClose line) :=
  fun _ _ _ _ => rfl
theorem WindowWrite.endOfReply (line : LineId) (reply : List RxByte) : WindowWrite.Statement (.endOfReply line reply) :=
  by
  intro o z v h
  rcases commandOfWrite_cases o z v with h' | h' | h' | h' | ⟨h', -⟩ <;> rw [h] at h' <;> simp at h'
theorem WindowWrite.replyOverrun (line : LineId) : WindowWrite.Statement (.replyOverrun line) := fun _ _ _ _ => rfl
theorem WindowWrite.ringReadDone (read : ReadEnd) : WindowWrite.Statement (.ringReadDone read) := by
  intro o z v h
  rcases commandOfWrite_cases o z v with h' | h' | h' | h' | ⟨h', -⟩ <;> rw [h] at h' <;> simp at h'
theorem WindowWrite.progressWriteDone (write : WriteEnd) : WindowWrite.Statement (.progressWriteDone write) :=
  fun _ _ _ _ => rfl
theorem WindowWrite.segmentReadDone (line : LineId) (read : ReadEnd) : WindowWrite.Statement (.segmentReadDone line read) :=
  by
  intro o z v h
  rcases commandOfWrite_cases o z v with h' | h' | h' | h' | ⟨h', -⟩ <;> rw [h] at h' <;> simp at h'
theorem WindowWrite.responseWriteDone (line : LineId) (write : WriteEnd) : WindowWrite.Statement (.responseWriteDone line write) :=
  fun _ _ _ _ => rfl
theorem WindowWrite.fetchSegmentWriteDone (line : LineId) (write : WriteEnd) : WindowWrite.Statement (.fetchSegmentWriteDone line write) :=
  fun _ _ _ _ => rfl
theorem WindowWrite.collectSegmentWriteDone (line : LineId) (write : WriteEnd) : WindowWrite.Statement (.collectSegmentWriteDone line write) :=
  fun _ _ _ _ => rfl
theorem WindowWrite.completionWriteDone (write : WriteEnd) : WindowWrite.Statement (.completionWriteDone write) :=
  fun _ _ _ _ => rfl
theorem WindowWrite.nodeStartBit (line : LineId) : WindowWrite.Statement (.nodeStartBit line) := fun _ _ _ _ => rfl

end Sys2Proof.Laws
end

