-- ==== Sys2Proof/Laws/Settle.lean ====
section
/-! SUPPORT. Said once: what one move of the part within a step can be, and the induction over the moves of a step. -/

namespace Sys2Proof.Machine

/-- The fetcher begins a fetch: none was in progress, the ring is eligible, its place is reserved and the pointer stands on
it (R143). -/
theorem State.fetchBegin_cases {s t : State} (h : s.fetchBegin = some t) :
    s.fetcher.fetch = none ∧ ∃ r, s.eligible r = true ∧
      t = { s with fetcher := { pointer := r, fetch := some { ring := r, phase := .read } } }.reserve r := by
  unfold State.fetchBegin at h
  split at h
  · cases h
  · next hf =>
    obtain ⟨r, hr, rfl⟩ := Option.map_eq_some_iff.mp h
    exact ⟨by simpa using hf, r, List.find?_some hr, rfl⟩

/-- One engine moves: its step gives its line and what is left in the cache (R76). -/
theorem State.engineMove_cases {s t : State} {l : LineId} (h : s.engineMove l = some t) :
    ∃ ln cache, (s.line l).engineStep (s.ctx l) (s.env l) s.cache = some (ln, cache) ∧
      t = { s.setLine l ln with cache := cache } := by
  obtain ⟨p, hp, rfl⟩ := Option.map_eq_some_iff.mp h
  exact ⟨p.1, p.2, hp, rfl⟩

/-- The service slot is filled from the front of its owed list (R148). -/
theorem State.servicePlace_cases {s t : State} (h : s.servicePlace = some t) :
    ∃ c rest, s.serviceSlot = none ∧ s.serviceOwed = c :: rest ∧
      t = { s with serviceSlot := some c, serviceOwed := rest,
                   cacheReserved := if c.code = .badBuffer then s.cacheReserved - 1 else s.cacheReserved } := by
  unfold State.servicePlace at h
  split at h
  · next c rest hs ho => cases h; exact ⟨c, rest, hs, ho, rfl⟩
  · cases h

/-- The writer takes the record of one source that holds one, and only when it may (R150). -/
theorem State.take_cases {s t : State} {fresh : Bool} (h : s.take fresh = some t) :
    s.mayTake = true ∧ ∃ k c n, s.source k = some c ∧ t = { s.takeFrom k c with freeCount := n } := by
  unfold State.take at h
  split at h
  · next hm =>
    dsimp only at h
    split at h
    · cases h
    · next k _ =>
      obtain ⟨c, hc, rfl⟩ := Option.map_eq_some_iff.mp h
      exact ⟨hm, k, c, _, hc, rfl⟩
  · cases h

/-- The five kinds of move of the part within a step. -/
theorem State.move_cases {s t : State} {fresh : Bool} (h : s.move fresh = some t) :
    s.fetchBegin = some t ∨ (∃ l, s.engineMove l = some t) ∨ s.servicePlace = some t ∨ s.take fresh = some t ∨
      (s.stopped = true ∧ t = s.enterHalted) := by
  unfold State.move at h
  split at h
  · next hf => cases h; exact .inl hf
  · split at h
    · next he =>
      cases h
      obtain ⟨l, _, hl⟩ := List.exists_of_findSome?_eq_some he
      exact .inr (.inl ⟨l, hl⟩)
    · split at h
      · next hs => cases h; exact .inr (.inr (.inl hs))
      · split at h
        · next ht => cases h; exact .inr (.inr (.inr (.inl ht)))
        · split at h
          · next hd => cases h; exact .inr (.inr (.inr (.inr ⟨hd, rfl⟩)))
          · cases h

/-- What every move keeps, the moves of a step keep. -/
theorem State.moves_keeps {P : State → Prop} {fresh : Bool}
    (hmove : ∀ s t, P s → s.move fresh = some t → P t) : ∀ n s, P s → P (State.moves fresh n s)
  | 0, _, h => h
  | n + 1, s, h => by
    unfold State.moves
    split
    · exact h
    · next t ht => exact State.moves_keeps hmove n t (hmove s t h ht)

/-- What each kind of move and the relabelling of waiting engines keep holds when a step has settled. -/
theorem State.settleFrom_keeps {P : State → Prop} (before : State)
    (hfetch : ∀ s t, P s → s.fetchBegin = some t → P t)
    (hengine : ∀ s t l, P s → s.engineMove l = some t → P t)
    (hservice : ∀ s t, P s → s.servicePlace = some t → P t)
    (htake : ∀ s t fresh, P s → s.take fresh = some t → P t)
    (hhalt : ∀ s, P s → s.stopped = true → P s.enterHalted)
    (hlabel : ∀ s, P s → P (s.mapLines Line.relabel))
    (s : State) (h : P s) : P (State.settleFrom before s) := by
  refine hlabel _ (State.moves_keeps (fun s t hs hm => ?_) _ s h)
  rcases State.move_cases hm with h1 | ⟨l, h2⟩ | h3 | h4 | ⟨h5, rfl⟩
  · exact hfetch s t hs h1
  · exact hengine s t l hs h2
  · exact hservice s t hs h3
  · exact htake s t _ hs h4
  · exact hhalt s hs h5

/-- What follows within a step leaves a fetch in progress alone, with the rings and the loaded configuration, so what the
fetch has on the bus stays as it is (R140, R143, R145). -/
theorem State.settleFrom_fetch {f : Fetch} (before : State) {s : State} (h : s.fetcher.fetch = some f) :
    (State.settleFrom before s).fetcher = s.fetcher ∧ (State.settleFrom before s).rings = s.rings ∧
      (State.settleFrom before s).loaded = s.loaded := by
  refine State.settleFrom_keeps (P := fun t => t.fetcher = s.fetcher ∧ t.rings = s.rings ∧ t.loaded = s.loaded) before
    (fun u t hu ht => ?_) (fun u t l hu ht => ?_) (fun u t hu ht => ?_) (fun u t fresh hu ht => ?_)
    (fun u hu _ => ?_) (fun u hu => hu) s ⟨rfl, rfl, rfl⟩
  · have hn := (State.fetchBegin_cases ht).1
    rw [hu.1, h] at hn; cases hn
  · obtain ⟨ln, cache, -, rfl⟩ := State.engineMove_cases ht; exact hu
  · obtain ⟨c, rest, -, -, rfl⟩ := State.servicePlace_cases ht; exact hu
  · obtain ⟨-, k, c, n, -, rfl⟩ := State.take_cases ht
    unfold State.takeFrom State.emptySource
    split <;> exact hu
  · unfold State.enterHalted
    split <;> exact hu

/-- The progress write on the bus, for a fetch that writes its progress word under a loaded configuration (R145). -/
theorem State.progressWrite_of_progress {s : State} {c : LoadedConfig} {r : RingId} (hc : s.loaded = some c)
    (hf : s.fetcher.fetch = some { ring := r, phase := .progress }) :
    s.progressWrite = some (c.progress + BitVec.ofNat 64 (2 * r.val), progressWord (s.ring r).consumer) := by
  simp [State.progressWrite, State.progressAddr, hc, hf]

/-- A happening that reaches an engine that is not IDLE changes its line and nothing else (R76). -/
theorem State.wake_of_not_idle (s : State) (l : LineId) (ln : Line) (h : ln.engine.state ≠ .idle) :
    s.wake l ln = s.setLine l ln := by
  simp [State.wake, h]

/-- A happening that reaches an IDLE engine brings it to a boundary (R76). -/
theorem State.wake_of_idle (s : State) (l : LineId) (ln : Line) (h : ln.engine.state = .idle) :
    s.wake l ln = s.settleFrom (s.setLine l ln) := by
  simp [State.wake, h]

/-- While an engine is EXCHANGING nothing follows within the step (R80). -/
theorem State.finish_of_exchanging (s : State) (l : LineId) (ln : Line) (h : ln.engine.state = .exchanging) :
    s.finish l ln = s.setLine l ln := by
  simp [State.finish, h]

/-- An engine whose exchange or access has ended goes on (R76). -/
theorem State.finish_of_not_exchanging (s : State) (l : LineId) (ln : Line) (h : ln.engine.state ≠ .exchanging) :
    s.finish l ln = s.settleFrom (s.setLine l ln) := by
  simp [State.finish, h]

/-- A relabelled line differs in its engine's state only. -/
theorem Line.relabel_eq (ln : Line) :
    ∃ st, ln.relabel = { ln with engine := { ln.engine with state := st } } ∧
      (ln.engine.state ≠ .idle → ln.engine.state ≠ .blocked → st = ln.engine.state) ∧
      (ln.engine.state = .idle ∨ ln.engine.state = .blocked → st = .idle ∨ st = .blocked) := by
  unfold Line.relabel
  split
  · next h =>
    refine ⟨_, rfl, fun h1 h2 => absurd h (by simp [h1, h2]), fun _ => ?_⟩
    split <;> simp
  · next h => exact ⟨ln.engine.state, rfl, fun _ _ => rfl, fun hh => absurd hh h⟩

end Sys2Proof.Machine
end

