-- ==== Sys2Proof/Laws/Unit.lean ====
section
/-! SUPPORT. Said once: what a unit of work can do to a line. Every unit is a run of the small changes of `Line.Change`,
which touch neither the wire nor the engine's state, and then one ending: nothing more, an exchange handed over, a host
access started, or the engine INACTIVE. An invariant of lines is proved over the changes and the endings, not over the
units. -/

namespace Sys2Proof.Machine

/-- One small change of a line within a unit of work, in device state `d`. -/
inductive Line.Change (x : LineCtx) (d : DeviceState) : Line → Line → Prop where
  /-- An owed record is placed in the empty slot, with the change tied to its placing (R93). -/
  | place (ln : Line) (o : Owed) (rest : List Owed) :
      ln.engine.slot = none → ln.engine.owed = o :: rest → Change x d ln (ln.place o rest)
  /-- LINE_UP goes straight into the empty slot when nothing is owed (R25). -/
  | lineUp (ln : Line) :
      ln.engine.slot = none → ln.engine.owed = [] → ln.engine.lineUpOwed = true → Change x d ln (ln.postLineUp x.line)
  /-- A line event is produced. -/
  | event (ln : Line) (c : Completion) (e : PlaceEffect) :
      c.type = .event → (e = .driverFailed → ln.engine.cont.stops = false) → Change x d ln (ln.produceWith c e)
  /-- The urgent head completes. -/
  | completeUrgent (ln : Line) (code : Code) (count : Nat) (detail : BitVec 32) :
      Change x d ln (ln.completeUrgent x.line code count detail)
  /-- The routine head completes. -/
  | completeRoutine (ln : Line) (code : Code) (count : Nat) (detail : BitVec 32) :
      Change x d ln (ln.completeRoutine x.line code count detail)
  /-- A waiting routine record is removed by an ABORT and answered ABORTED (R118). -/
  | removeWaiting (ln : Line) (p : Request → Bool) (r : Request) (detail : BitVec 32) :
      ln.waiting.find? p = some r →
      Change x d ln
        (({ ln with engine := { ln.engine with
            routine := (if ln.engine.transfer.isSome then ln.engine.routine.take 1 ++ ln.waiting.eraseP p
              else ln.waiting.eraseP p) } }).produce (resultRecord x.line r .aborted 0 detail))
  /-- The STOP cancellation answers both queues CANCELLED (R165 steps 2 and 3). -/
  | cancelQueues (ln : Line) :
      ln.engine.transfer = none →
      Change x d ln
        (({ ln with engine := { ln.engine with
            urgent := [], routine := [], urgentBusy := 0, urgentDeadline := none, cutOff := false } }).produceAll
          ((ln.engine.urgent ++ ln.engine.routine).map (fun r => resultRecord x.line r .cancelled 0 r.resultDetail)))
  /-- The collection ends, its buffer returned if it holds one. -/
  | returnCollection (ln : Line) (code : Code) : Change x d ln (ln.returnCollection x.line code)
  /-- A collection without a buffer is dropped. -/
  | dropCollection (ln : Line) :
      ln.heldBuffers = 0 → Change x d ln { ln with engine := { ln.engine with collection := none } }
  /-- The collection goes on with the same buffer. -/
  | updateCollection (ln : Line) (k k' : Collection) :
      ln.engine.collection = some k → k'.buffer = k.buffer →
      Change x d ln { ln with engine := { ln.engine with collection := some k' } }
  /-- BAR's change of an entry. -/
  | bar (ln : Line) (n : Node) : Change x d ln (ln.setEntry n (ln.entry n).bar)
  /-- UNBAR's change of an entry. -/
  | unbar (ln : Line) (n : Node) : Change x d ln (ln.setEntry n (ln.entry n).unbar)
  /-- The driver changes, never to UP; its restarts left stay within the budget. -/
  | driver (ln : Line) (v : Driver) :
      v.state ≠ .up → (v.restartsLeft ≤ ln.driver.restartsLeft ∨ v.restartsLeft ≤ x.cfg.restartBudget) →
      v.roundsSinceUp = ln.driver.roundsSinceUp → (ln.engine.cont = .stopDone → v.state = .off) →
      Change x d ln { ln with driver := v }
  /-- The line leaves UP. -/
  | leaveUp (ln : Line) : Change x d ln ln.leaveUp
  /-- The trip processing is finished. -/
  | tripDone (ln : Line) : Change x d ln { ln with engine := { ln.engine with tripPending := false } }
  /-- The round state changes. -/
  | rounds (ln : Line) (r : Rounds) : Change x d ln { ln with rounds := r }
  /-- The driver notes the end of a round (R32). -/
  | roundEnded (ln : Line) : Change x d ln { ln with driver := ln.driver.roundEnded x.cfg }
  /-- The active record's context goes on. -/
  | updateTransfer (ln : Line) (t t' : Transfer) :
      ln.engine.transfer = some t → t'.tag = t.tag → t'.node = t.node → t'.length = t.length →
      t'.hostAddr = t.hostAddr → Change x d ln (ln.setTransfer t')
  /-- The routine head becomes active. -/
  | beginTransfer (ln : Line) (t : Transfer) (r : Request) :
      ln.engine.transfer = none → ln.engine.routine.head? = some r → t.tag = r.tag → nodeOf r.node = some t.node →
      t.length = r.length.toNat → t.hostAddr = r.hostAddr → Change x d ln (ln.setTransfer t)
  /-- The urgent head state of a SEND that drew NAK_BUSY (R83). -/
  | urgentBusy (ln : Line) (count : Nat) (deadline : Timer) :
      Change x d ln { ln with engine := { ln.engine with urgentBusy := count, urgentDeadline := deadline } }
  /-- What is left of the unit is set. -/
  | setCont (ln : Line) (k : Cont) : k.stops = false → Change x d ln (ln.setCont k)
  /-- The STOP cancellation goes on to its last steps (R165). -/
  | stopCont (ln : Line) (k : Cont) :
      d = .stopping → k.stops = true → (k = .stopDone → ln.driver.state = .off) →
      (∀ o ∈ ln.engine.owed, o.effect ≠ .driverFailed) → (ln.engine.collection = none ∨ ln.engine.cont.stops = true) →
      Change x d ln (ln.setCont k)

/-- A run of small changes. -/
def Line.Quiet (x : LineCtx) (d : DeviceState) : Line → Line → Prop := Relation.ReflTransGen (Line.Change x d)

/-- How a unit of work ends after its small changes. -/
inductive Line.Ending (m : Line) : Line → Prop where
  | none : Ending m m
  /-- An exchange is handed over, with the frame built from the entry as it stands. -/
  | handOver (p : Purpose) (f : Frame) :
      f = Frame.build (m.entry f.node) f.kind f.node f.first f.payload → Ending m (m.handOver p f)
  | access (a : HostAccess) : Ending m (m.startAccess a)
  | inactive :
      m.engine.cont = .stopDone →
      Ending m { m with engine := { m.engine with state := .inactive, cont := .boundary } }

/-- What a unit of work can do: small changes and an ending. -/
def Line.Unit (x : LineCtx) (d : DeviceState) (ln ln' : Line) : Prop :=
  ∃ m, Line.Quiet x d ln m ∧ Line.Ending m ln'

section
variable {x : LineCtx} {d : DeviceState} {a b c : Line}

theorem Line.Quiet.refl (a : Line) : Line.Quiet x d a a := Relation.ReflTransGen.refl

theorem Line.Quiet.step (h : Line.Quiet x d a b) (h' : Line.Change x d b c) : Line.Quiet x d a c :=
  Relation.ReflTransGen.tail h h'

theorem Line.Quiet.one (h : Line.Change x d a b) : Line.Quiet x d a b := (Line.Quiet.refl a).step h

theorem Line.Quiet.trans (h : Line.Quiet x d a b) (h' : Line.Quiet x d b c) : Line.Quiet x d a c :=
  Relation.ReflTransGen.trans h h'

theorem Line.Quiet.unit (h : Line.Quiet x d a b) : Line.Unit x d a b := ⟨b, h, .none⟩

theorem Line.Unit.after (h : Line.Quiet x d a b) (h' : Line.Unit x d b c) : Line.Unit x d a c := by
  obtain ⟨m, hm, he⟩ := h'
  exact ⟨m, h.trans hm, he⟩

/-- What every small change keeps, a run of them keeps. -/
theorem Line.Quiet.keeps {P : Line → Prop} (hc : ∀ a b, P a → Line.Change x d a b → P b) (h : Line.Quiet x d a b)
    (ha : P a) : P b := by
  induction h with
  | refl => exact ha
  | tail _ hab ih => exact hc _ _ ih hab

end

/-! ## The pieces of units -/

section
variable (x : LineCtx) (d : DeviceState)

theorem Line.handOver_unit (ln : Line) (p : Purpose) (kind : FrameKind) (n : Node) (first : Bool) (payload : List Byte) :
    Line.Unit x d ln (ln.handOver p (Frame.build (ln.entry n) kind n first payload)) :=
  ⟨ln, .refl ln, .handOver p _ rfl⟩

theorem Line.completeActive_quiet (ln : Line) (code : Code) (detail : BitVec 32) :
    Line.Quiet x d ln (ln.completeActive x.line code detail) := by
  unfold Line.completeActive
  split
  · exact .refl ln
  · exact .one (.completeRoutine ln code _ detail)

/-- After the active record completes there is no transfer context. -/
theorem Line.completeActive_transfer (ln : Line) (l : LineId) (code : Code) (detail : BitVec 32) :
    (ln.completeActive l code detail).engine.transfer = none := by
  unfold Line.completeActive
  split
  · assumption
  · unfold Line.completeRoutine; split <;> rfl

/-- A collection is over once it is returned. -/
theorem Line.returnCollection_collection (ln : Line) (l : LineId) (code : Code) :
    (ln.returnCollection l code).engine.collection = none := by
  unfold Line.returnCollection
  split
  · assumption
  · dsimp only; split <;> rfl

theorem Line.turnOff_quiet (ln : Line) : Line.Quiet x d ln ln.turnOff := by
  have h : Line.Quiet x d ln { ln with driver := ln.driver.turnOff } :=
    .one (.driver ln _ (by simp [Driver.turnOff]) (.inl (Nat.le_refl _)) rfl (fun _ => rfl))
  unfold Line.turnOff
  dsimp only
  split
  · exact h.step (.leaveUp _)
  · exact h

theorem Line.powerDown_quiet (ln : Line) : Line.Quiet x d ln (ln.powerDown x.line) := by
  unfold Line.powerDown
  exact ((((Line.turnOff_quiet x d ln).step (.event _ (lineEvent x.line .lineOff 0) .clearEntries rfl (fun h => nomatch h))).trans
    (Line.completeActive_quiet x d _ .lineDown 0)).step (.returnCollection _ .lineDown))

theorem Line.completeCutOff_quiet (ln : Line) : Line.Quiet x d ln (ln.completeCutOff x.line) := by
  unfold Line.completeCutOff
  split
  · split
    · exact (Line.Quiet.one (.completeRoutine ln _ _ _)).step (.completeUrgent _ _ _ _)
    · split
      · exact .one (.completeUrgent ln _ _ _)
      · exact .refl ln
  · split
    · exact .one (.completeUrgent ln _ _ _)
    · exact .refl ln

theorem Line.processTrip_quiet (ln : Line) : Line.Quiet x d ln (ln.processTrip x.line) := by
  unfold Line.processTrip
  exact (((((Line.Quiet.one (.event ln (lineEvent x.line .lineTripped ln.driver.restartsLeft) .clearEntries rfl
    (fun h => nomatch h))).trans
    (Line.completeCutOff_quiet x d _)).trans (Line.completeActive_quiet x d _ _ _)).step
      (.returnCollection _ .lineDown)).step (.setCont _ .tripBudget rfl))

theorem Line.powerUp_quiet (ln : Line) (h : ln.engine.cont ≠ .stopDone) : Line.Quiet x d ln (ln.powerUp x.cfg) :=
  .one (.driver ln _ (by simp [Driver.applySupply]) (.inr (Nat.le_refl _)) rfl (fun e => absurd e h))

theorem Line.powerOn_quiet (ln : Line) (h : ln.engine.cont ≠ .stopDone) : Line.Quiet x d ln (ln.powerOn x) := by
  unfold Line.powerOn
  split <;>
    first
    | exact (Line.powerUp_quiet x d ln h).step (.completeUrgent _ _ _ _)
    | exact .one (.completeUrgent ln _ _ _)

theorem Line.powerOff_quiet (ln : Line) : Line.Quiet x d ln (ln.powerOff x) := by
  unfold Line.powerOff
  split
  · exact .one (.completeUrgent ln _ _ _)
  · exact (Line.powerDown_quiet x d ln).step (.completeUrgent _ _ _ _)

theorem Line.powerCycle_quiet (ln : Line) : Line.Quiet x d ln (ln.powerCycle x) := by
  unfold Line.powerCycle
  split
  · exact .one (.setCont ln _ rfl)
  · exact (Line.powerDown_quiet x d ln).step (.setCont _ _ rfl)

theorem Line.cycleOn_quiet (ln : Line) : Line.Quiet x d ln (ln.cycleOn x) := by
  unfold Line.cycleOn
  exact (((Line.Quiet.one (.setCont ln .boundary rfl)).trans (Line.powerUp_quiet x d _ (by simp))).step
    (.completeUrgent _ _ _ _))

theorem Line.tripBudget_quiet (ln : Line) : Line.Quiet x d ln (ln.tripBudget x) := by
  unfold Line.tripBudget
  have h0 : Line.Quiet x d ln (ln.setCont .boundary) := .one (.setCont ln .boundary rfl)
  dsimp only
  split
  · have h1 := h0.step (.driver (ln.setCont .boundary)
      { ln.driver with
        state := .cooldown, restartsLeft := ln.driver.restartsLeft - 1, cooldown := startMs (100 * x.cfg.cooldown) }
      (by simp) (.inl (Nat.sub_le _ _)) rfl (by simp))
    exact h1.step (.tripDone _)
  · exact h0.step (.event _ (lineEvent x.line .lineFailed 0) .driverFailed rfl (fun _ => rfl))

/-! ## Rounds and collections -/

theorem Line.endRound_quiet (ln : Line) : Line.Quiet x d ln (ln.endRound x.cfg) :=
  (Line.Quiet.one (.rounds ln { ln.rounds with round := none, number := ln.rounds.number + 1 })).step (.roundEnded _)

theorem Line.moveTo_quiet (ln : Line) (r : Round) (i : Nat) : Line.Quiet x d ln (ln.moveTo x.cfg r i) := by
  unfold Line.moveTo
  split
  · exact .one (.rounds ln _)
  · exact Line.endRound_quiet x d ln

theorem Line.advance_quiet (ln : Line) : Line.Quiet x d ln (ln.advance x.cfg) := by
  unfold Line.advance
  split
  · exact .refl ln
  · exact (Line.Quiet.one (.rounds ln { ln.rounds with rejoin := none })).trans (Line.moveTo_quiet x d _ _ _)

theorem Line.sendTurn_unit (ln : Line) (t : Turn) : Line.Unit x d ln (ln.sendTurn t) := by
  unfold Line.sendTurn
  split <;> exact Line.handOver_unit x d ln _ _ _ _ _

theorem Line.takeTurns_unit (ln : Line) (r : Round) : Line.Unit x d ln (ln.takeTurns x.cfg r) := by
  unfold Line.takeTurns
  dsimp only
  split
  · exact (Line.endRound_quiet x d ln).unit
  · exact .after (Line.moveTo_quiet x d ln _ _) (Line.sendTurn_unit x d _ _)

theorem Line.beginRound_quiet (ln : Line) : Line.Quiet x d ln (ln.beginRound x.cfg) := by
  unfold Line.beginRound
  split
  · exact .one (.rounds ln _)
  · exact .one (.rounds ln _)

theorem Line.takeRejoin_unit (ln : Line) (n : Node) : Line.Unit x d ln (ln.takeRejoin x.cfg n) := by
  unfold Line.takeRejoin
  split
  · exact Line.handOver_unit x d ln _ _ _ _ _
  · exact (Line.advance_quiet x d ln).unit

theorem Line.endCollection_quiet (ln : Line) (code : Code) : Line.Quiet x d ln (ln.endCollection x.line code) :=
  (Line.Quiet.one (.returnCollection ln code)).step (.setCont _ .advance rfl)

theorem Line.sendCollect_unit (ln : Line) (k k' : Collection) (hk : ln.engine.collection = some k')
    (hb : k.buffer = k'.buffer) : Line.Unit x d ln (ln.sendCollect k) := by
  unfold Line.sendCollect
  exact .after (.one (.updateCollection ln k' { k with firstSent := true } hk hb)) (Line.handOver_unit x d _ _ _ k.node _ _)

theorem Line.sendCollected_unit (ln : Line) (k : Collection) (hk : ln.engine.collection = some k) :
    Line.Unit x d ln (ln.sendCollected k) := by
  unfold Line.sendCollected
  exact .after (.one (.updateCollection ln k { k with next := .close } hk rfl)) (Line.handOver_unit x d _ _ _ k.node _ _)

theorem Line.dropCollection_quiet (ln : Line) (h : ln.heldBuffers = 0) :
    Line.Quiet x d ln (ln.dropCollection x.cfg) :=
  (Line.Quiet.one (.dropCollection ln h)).trans (Line.advance_quiet x d _)

theorem Line.resumeCollection_unit (ln : Line) (k : Collection) (hk : ln.engine.collection = some k) :
    Line.Unit x d ln (ln.resumeCollection x k) := by
  unfold Line.resumeCollection
  split
  · split
    · exact Line.sendCollect_unit x d ln k k hk rfl
    · exact Line.sendCollected_unit x d ln k hk
  · exact (Line.endCollection_quiet x d ln _).unit

/-! ## Transfers -/

theorem Line.sendStep_unit (ln : Line) (t : Transfer) (r : Request) (h : Line.Quiet x d ln (ln.setTransfer t)) :
    Line.Unit x d ln (ln.sendStep t r) := by
  unfold Line.sendStep stepFrame
  refine .after h ?_
  have hn : ln.entry t.node = (ln.setTransfer t).entry t.node := rfl
  split
  · rw [hn]; exact Line.handOver_unit x d _ _ _ _ _ _
  · split <;> (rw [hn]; exact Line.handOver_unit x d _ _ _ _ _ _)
  · rw [hn]; exact Line.handOver_unit x d _ _ _ _ _ _
  · rw [hn]; exact Line.handOver_unit x d _ _ _ _ _ _
  · rw [hn]; exact Line.handOver_unit x d _ _ _ _ _ _

theorem Line.runClosing_unit (ln : Line) (reason : CloseReason) (status : Code) :
    Line.Unit x d ln (ln.runClosing x.line reason status) := by
  unfold Line.runClosing
  split
  · exact (Line.Quiet.one (.setCont ln .boundary rfl)).unit
  · next t ht =>
    dsimp only
    split
    · have hu : Line.Change x d ln (ln.setTransfer
          { t with next := .closing status, sessionOpen := false, held := none, deadline := none }) :=
        .updateTransfer ln t _ ht rfl rfl rfl rfl
      exact .after (.one hu) (Line.handOver_unit x d _ _ _ t.node _ _)
    · exact (((Line.Quiet.one (.setCont ln .boundary rfl)).step
        (.updateTransfer _ t _ (by simpa using ht) rfl rfl rfl rfl)).trans (Line.completeActive_quiet x d _ _ _)).unit

theorem Line.beginRoutine_unit (ln : Line) (r : Request) (n : Node) (ht : ln.engine.transfer = none)
    (hr : ln.engine.routine.head? = some r) (hn : nodeOf r.node = some n) :
    Line.Unit x d ln (ln.beginRoutine r n) := by
  unfold Line.beginRoutine
  split
  · exact Line.sendStep_unit x d ln _ r (.one (.beginTransfer ln _ r ht hr rfl hn rfl rfl))
  · exact ⟨ln, .refl ln, .access _⟩
  · exact Line.sendStep_unit x d ln _ r (.one (.beginTransfer ln _ r ht hr rfl hn rfl rfl))
  · exact (Line.Quiet.refl ln).unit

theorem Line.resumeRoutine_unit (ln : Line) (t : Transfer) (r : Request) (ht : ln.engine.transfer = some t) :
    Line.Unit x d ln (ln.resumeRoutine t r) := by
  unfold Line.resumeRoutine
  split
  · exact ⟨ln, .refl ln, .access _⟩
  · exact Line.sendStep_unit x d ln _ r (.one (.updateTransfer ln t t ht rfl rfl rfl rfl))

/-! ## Urgent work, selection, cancellation -/

theorem Line.bar_quiet (ln : Line) (n : Node) : Line.Quiet x d ln (ln.bar x.line n) := by
  have h1 : Line.Quiet x d ln (ln.setEntry n (ln.entry n).bar) := .one (.bar ln n)
  have h2 : ∀ m : Line, Line.Quiet x d ln m → Line.Quiet x d ln
      (match m.engine.collection with
        | some { node := k, buffer := some _, .. } =>
          if k = n then ((m.returnCollection x.line .nodeBarred).setCont .advance).completeUrgent x.line .ok 0 0
          else m.completeUrgent x.line .ok 0 0
        | _ => m.completeUrgent x.line .ok 0 0) := by
    intro m hm
    split
    · split
      · exact ((hm.step (.returnCollection m .nodeBarred)).step (.setCont _ .advance rfl)).step (.completeUrgent _ _ _ _)
      · exact hm.step (.completeUrgent _ _ _ _)
    · exact hm.step (.completeUrgent _ _ _ _)
  unfold Line.bar
  dsimp only
  refine h2 _ ?_
  split
  · split
    · exact h1.trans (Line.completeActive_quiet x d _ _ _)
    · exact h1
  · exact h1

theorem Line.unbar_quiet (ln : Line) (n : Node) : Line.Quiet x d ln (ln.unbar x.line n) :=
  (Line.Quiet.one (.unbar ln n)).step (.completeUrgent _ _ _ _)

theorem Line.probe_unit (ln : Line) (n : Node) : Line.Unit x d ln (ln.probe x.line n) := by
  unfold Line.probe
  split
  · exact (Line.Quiet.one (.completeUrgent ln _ _ _)).unit
  · exact Line.handOver_unit x d ln _ _ _ _ _

theorem Line.abortActive_quiet (ln : Line) (r : Request) : Line.Quiet x d ln (ln.abortActive x.line r) :=
  (Line.completeActive_quiet x d ln _ _).step (.completeUrgent _ _ _ _)

theorem Line.abortWaiting_quiet (ln : Line) (r : Request) : Line.Quiet x d ln (ln.abortWaiting x.line r) := by
  unfold Line.abortWaiting
  split
  · exact .one (.completeUrgent ln _ _ _)
  · next q hq => exact (Line.Quiet.one (.removeWaiting ln _ q _ hq)).step (.completeUrgent _ _ _ _)

theorem Line.abort_unit (ln : Line) (r : Request) : Line.Unit x d ln (ln.abort x.line r) := by
  unfold Line.abort
  split
  · next t ht =>
    split
    · unfold Line.abortStop
      split
      · have hu : Line.Change x d ln (ln.setTransfer
            { t with abortFlag := true, sessionOpen := false, deadline := none, held := none }) :=
          .updateTransfer ln t _ ht rfl rfl rfl rfl
        exact .after (.one hu) (Line.handOver_unit x d _ _ _ t.node _ _)
      · exact (Line.abortActive_quiet x d ln r).unit
    · exact (Line.abortWaiting_quiet x d ln r).unit
  · exact (Line.abortWaiting_quiet x d ln r).unit

theorem Line.urgentAct_unit (ln : Line) (r : Request) (h : ln.engine.cont ≠ .stopDone) :
    Line.Unit x d ln (ln.urgentAct x r) := by
  unfold Line.urgentAct
  split
  · exact Line.abort_unit x d ln r
  · split
    · exact (Line.powerOn_quiet x d ln h).unit
    · exact (Line.powerOff_quiet x d ln).unit
    · exact (Line.powerCycle_quiet x d ln).unit
    · exact (Line.Quiet.one (.completeUrgent ln _ _ _)).unit
  · split
    · exact Line.handOver_unit x d ln _ _ _ _ _
    · exact Line.probe_unit x d ln _
    · exact (Line.bar_quiet x d ln _).unit
    · exact (Line.unbar_quiet x d ln _).unit
    · exact (Line.Quiet.one (.completeUrgent ln _ _ _)).unit
    · exact (Line.Quiet.one (.completeUrgent ln _ _ _)).unit
  · exact (Line.Quiet.one (.completeUrgent ln _ _ _)).unit

theorem Line.urgentUnit_unit (ln : Line) (r : Request) (h : ln.engine.cont ≠ .stopDone) :
    Line.Unit x d ln (ln.urgentUnit x r) := by
  unfold Line.urgentUnit
  split
  · split
    · exact (Line.Quiet.one (.completeUrgent ln _ _ _)).unit
    · split
      · exact (Line.Quiet.one (.completeUrgent ln _ _ _)).unit
      · exact Line.handOver_unit x d ln _ _ _ _ _
  · split
    · exact (Line.Quiet.one (.completeUrgent ln _ _ _)).unit
    · exact Line.urgentAct_unit x d ln r h

theorem Line.routineUnit_unit (ln : Line) (r : Request) (hr : ln.engine.routine.head? = some r) :
    Line.Unit x d ln (ln.routineUnit x r) := by
  unfold Line.routineUnit
  split
  · next t ht =>
    split
    · exact (Line.completeActive_quiet x d ln _ _).unit
    · exact Line.resumeRoutine_unit x d ln t r ht
  · next ht =>
    split
    · exact (Line.Quiet.one (.completeRoutine ln _ _ _)).unit
    · split
      · next n hn => exact Line.beginRoutine_unit x d ln r n ht hr hn
      · exact (Line.Quiet.one (.completeRoutine ln _ _ _)).unit

theorem Line.cancel_quiet (ln : Line) (hd : d = .stopping) (ho : ln.engine.owed = []) :
    Line.Quiet x d ln (ln.cancel x.line) := by
  have q1 := Line.completeActive_quiet x d ln .cancelled 0
  have t1 := Line.completeActive_transfer ln x.line .cancelled 0
  have e1 : ∀ o ∈ (ln.completeActive x.line .cancelled 0).engine.owed, o.effect ≠ .driverFailed := by
    unfold Line.completeActive Line.completeRoutine
    split
    · simp [ho]
    · split <;> simp [ho]
  have q2 := (q1.step (.cancelQueues _ t1)).step (.returnCollection _ .cancelled)
  refine q2.step (.stopCont _ .stopLineOff hd rfl (by simp) ?_ (.inl (Line.returnCollection_collection _ _ _)))
  intro o hmem
  have e2 : ∀ (m : Line) (cs : List Completion), (∀ o ∈ m.engine.owed, o.effect ≠ .driverFailed) →
      ∀ o ∈ ((m.produceAll cs).returnCollection x.line .cancelled).engine.owed, o.effect ≠ .driverFailed := by
    intro m cs hm o ho
    have h3 : ∀ o ∈ (m.produceAll cs).engine.owed, o.effect ≠ .driverFailed := by
      intro o ho
      rw [Line.produceAll_eq] at ho
      rcases List.mem_append.mp ho with h | h
      · exact hm o h
      · obtain ⟨c, _, rfl⟩ := List.mem_map.mp h
        simp
    rcases Line.returnCollection_cases (m.produceAll cs) x.line .cancelled with ⟨_, h⟩ | ⟨k, _, _, h⟩ | ⟨k, b, _, _, h⟩
    · rw [h] at ho; exact h3 o ho
    · rw [h] at ho; exact h3 o ho
    · rw [h] at ho
      rcases List.mem_append.mp ho with h4 | h4
      · exact h3 o h4
      · rw [List.mem_singleton.mp h4]; simp
  exact e2 { ln.completeActive x.line .cancelled 0 with
      engine := { (ln.completeActive x.line .cancelled 0).engine with
        urgent := [], routine := [], urgentBusy := 0, urgentDeadline := none, cutOff := false } } _ e1 o hmem

end

/-- A collection granted the oldest cached record, with its first COLLECT handed over (R126, R130). -/
def Line.Granted (ln ln' : Line) (cache cache' : List SupplyRecord) : Prop :=
  ∃ k b, ln.engine.collection = some k ∧ k.buffer = none ∧ cache = b :: cache' ∧
    ln' = ln.sendCollect { k with buffer := some b }

theorem Line.pollUnit_cases (x : LineCtx) (d : DeviceState) (ln : Line) (cache : List SupplyRecord) :
    ((ln.pollUnit x cache).2 = cache ∧ Line.Unit x d ln (ln.pollUnit x cache).1) ∨
      Line.Granted ln (ln.pollUnit x cache).1 cache (ln.pollUnit x cache).2 := by
  unfold Line.pollUnit
  split
  · dsimp only
    split
    · exact .inl ⟨rfl, (Line.beginRound_quiet x d ln).unit⟩
    · exact .inl ⟨rfl, .after (Line.beginRound_quiet x d ln) (Line.takeTurns_unit x d _ _)⟩
  · split
    · next k hk =>
      split
      · next hb =>
        unfold Line.beginCollection
        have h0 : ln.heldBuffers = 0 := by simp [Line.heldBuffers, hk, hb]
        split
        · cases cache with
          | nil => exact .inl ⟨rfl, (Line.dropCollection_quiet x d ln h0).unit⟩
          | cons b rest => exact .inr ⟨k, b, hk, hb, rfl, rfl⟩
        · exact .inl ⟨rfl, (Line.dropCollection_quiet x d ln h0).unit⟩
      · exact .inl ⟨rfl, Line.resumeCollection_unit x d ln k hk⟩
    · split
      · exact .inl ⟨rfl, Line.takeRejoin_unit x d ln _⟩
      · exact .inl ⟨rfl, Line.takeTurns_unit x d ln _⟩

theorem Line.select_cases {ln ln' : Line} {x : LineCtx} (d : DeviceState) {cache cache' : List SupplyRecord}
    (hc : ln.engine.cont ≠ .stopDone) (h : ln.select x cache = some (ln', cache')) :
    (cache' = cache ∧ Line.Unit x d ln ln') ∨ Line.Granted ln ln' cache cache' := by
  unfold Line.select at h
  split at h
  · obtain ⟨r, _, hr⟩ := Option.map_eq_some_iff.mp h
    cases hr
    exact .inl ⟨rfl, Line.urgentUnit_unit x d ln r hc⟩
  · have hp : ln.pollUnit x cache = (ln', cache') := Option.some.inj h
    have := Line.pollUnit_cases x d ln cache
    rwa [hp] at this
  · obtain ⟨r, hhead, hr⟩ := Option.map_eq_some_iff.mp h
    cases hr
    refine .inl ⟨rfl, Line.routineUnit_unit x d ln r ?_⟩
    unfold Line.routineHead at hhead
    split at hhead
    · split at hhead
      · cases hhead
      · exact hhead
    · exact hhead
  · cases h

theorem Line.cancelLineOff_quiet (x : LineCtx) (ln : Line) (ho : ln.engine.owed = [])
    (hc : ln.engine.cont = .stopLineOff) : Line.Quiet x .stopping ln (ln.cancelLineOff x.line) := by
  have e1 : ln.turnOff.engine.owed = [] ∧ ln.turnOff.engine.cont = .stopLineOff ∧ ln.turnOff.driver.state = .off := by
    rcases Line.turnOff_cases ln with ⟨_, h⟩ | ⟨_, h⟩ <;> rw [h] <;> simp [Driver.turnOff, Line.leaveUp, ho, hc]
  refine ((Line.turnOff_quiet x .stopping ln).step (.event _ (lineEvent x.line .lineOff 0) .clearEntries rfl
    (fun h => nomatch h))).step (.stopCont _ .stopDone rfl rfl (fun _ => e1.2.2) ?_ (.inr ?_))
  · simp [Line.produceWith, e1.1]
  · simp [Line.produceWith, e1.2.1, Cont.stops]

/-- What one move of an engine can do (R75, R76): the engine was IDLE or BLOCKED, and either its line went through a unit
and the cache was left alone, or a collection was granted the oldest cached record and its first COLLECT handed over. The
rest of a STOP cancellation belongs to STOPPING. -/
theorem Line.engineStep_cases {ln ln' : Line} {x : LineCtx} {env : EngineEnv} {cache cache' : List SupplyRecord}
    (hstop : ln.engine.cont.stops = true → env.device = .stopping)
    (h : ln.engineStep x env cache = some (ln', cache')) :
    (ln.engine.state = .idle ∨ ln.engine.state = .blocked) ∧
      ((cache' = cache ∧ Line.Unit x env.device ln ln') ∨ Line.Granted ln ln' cache cache') := by
  unfold Line.engineStep at h
  split at h
  · next hs =>
    refine ⟨hs, ?_⟩
    split at h
    · next o rest ho =>
      split at h
      · cases h
      · next hslot =>
        cases h
        exact .inl ⟨rfl, (Line.Quiet.one (.place ln o rest (by simpa using hslot) ho)).unit⟩
    · next ho =>
      unfold Line.proceed at h
      split at h
      · cases h; exact .inl ⟨rfl, ⟨ln, .refl ln, .access _⟩⟩
      · cases h; exact .inl ⟨rfl, Line.runClosing_unit _ _ ln _ _⟩
      · cases h
        exact .inl ⟨rfl, ((Line.Quiet.one (.setCont ln .boundary rfl)).trans (Line.advance_quiet _ _ _)).unit⟩
      · cases h; exact .inl ⟨rfl, (Line.tripBudget_quiet _ _ ln).unit⟩
      · cases h; exact .inl ⟨rfl, (Line.cycleOn_quiet _ _ ln).unit⟩
      · next hc =>
        have hd := hstop (by simp [hc, Cont.stops])
        split at h
        · next hu =>
          split at h
          · cases h
          · next hslot => cases h; exact .inl ⟨rfl, (Line.Quiet.one (.lineUp ln (by simpa using hslot) ho hu)).unit⟩
        split at h
        · next hoff =>
          cases h
          refine .inl ⟨rfl, (Line.Quiet.one (.stopCont ln .stopDone hd rfl (fun _ => hoff) ?_ (.inr ?_))).unit⟩
          · simp [ho]
          · simp [hc, Cont.stops]
        · split at h
          · cases h
          · cases h
            rw [hd]
            exact .inl ⟨rfl, (Line.cancelLineOff_quiet x ln ho hc).unit⟩
      · next hc => cases h; exact .inl ⟨rfl, ⟨ln, .refl ln, .inactive hc⟩⟩
      · next hc =>
        split at h
        · next hu =>
          split at h
          · cases h
          · next hslot => cases h; exact .inl ⟨rfl, (Line.Quiet.one (.lineUp ln (by simpa using hslot) ho hu)).unit⟩
        · split at h
          · split at h
            · cases h
            · cases h; exact .inl ⟨rfl, (Line.processTrip_quiet _ _ ln).unit⟩
          · split at h
            · exact Line.select_cases _ (by simp [hc]) h
            · next hd =>
              split at h
              · cases h
              · cases h; exact .inl ⟨rfl, (Line.cancel_quiet _ _ ln hd ho).unit⟩
            · cases h
  · cases h

/-- An exchange that a trip cuts off: its result changes no entry and completes no work, it is only taken as cut off (R13,
R26, R45). -/
theorem Line.exchangeEnd_of_tripped {ln : Line} {x : LineCtx} {res : ExchangeResult} {p : Purpose} {f : Frame}
    (hp : ln.engine.purpose = some p) (hf : ln.xcvr.frame = some f) (ht : res.tripped = true) :
    ln.exchangeEnd x res = ln.exchangeTripped p := by
  simp [Line.exchangeEnd, hp, hf, ht]

/-- The slot a completion record is written to, for the descriptor that is loaded (R140, R149). -/
theorem State.completionWrite_of_loaded {s : State} {c : LoadedConfig} {w : WrittenRecord} (hc : s.loaded = some c)
    (hw : s.writer.write = some w) :
    s.completionWrite = some ((c.rings.get 9).slotAddr 9 s.producerIndex, w.bytes) := by
  simp [State.completionWrite, State.completionAddr, hc, hw]

end Sys2Proof.Machine
end

