-- ==== Sys2Proof/Tests/Slice0.lean ====
section
/-! SUPPORT. The model's own tests, each on one command or one operation, and a witness for the hypotheses of every statement
of Certificates/Slice0/Obligations.lean. -/

namespace Sys2Proof.Tests

set_option Elab.async false

open Sys2Proof Sys2Proof.Machine

/-! ## Well-formedness: an ill-formed term for each check, and one at the boundary that passes -/

theorem test_wf_register_write_own_row : (Instr.registerWrite 0x14#6 .word 0).wellFormed = false := by decide
theorem test_wf_register_write_narrow : (Instr.registerWrite 0x14#6 .byte 0).wellFormed = true := by decide
theorem test_wf_config_read_empty : (Instr.configReadDone (.ok [])).wellFormed = false := by decide
theorem test_wf_config_read_long :
    (Instr.configReadDone (.ok (List.replicate 241 0))).wellFormed = false := by decide +kernel
theorem test_wf_config_error_long : (Instr.configReadDone (.busError 241)).wellFormed = false := by decide
theorem test_wf_config_error_block : (Instr.configReadDone (.busError 240)).wellFormed = true := by decide
theorem test_wf_reply_long :
    (Instr.endOfReply 0 (List.replicate 40 ⟨0, true⟩)).wellFormed = false := by decide
theorem test_wf_ring_read_size : (Instr.ringReadDone (.ok (List.replicate 47 0))).wellFormed = false := by decide
theorem test_wf_ring_read_supply : (Instr.ringReadDone (.ok (List.replicate 16 0))).wellFormed = true := by decide
theorem test_wf_segment_long : (Instr.segmentReadDone 0 (.ok (List.replicate 33 0))).wellFormed = false := by decide
theorem test_wf_segment_empty : (Instr.segmentReadDone 0 (.ok [])).wellFormed = false := by decide

/-! ## Writes to the window are the rows of the table (11 section 11.5) -/

theorem test_write_start : commandOfWrite 0x04#6 .word 0x1#32 = .start := by decide
theorem test_write_reset_high_bits : commandOfWrite 0x04#6 .word 0xFFFFFFFF#32 = .reset := by decide
theorem test_write_no_command : commandOfWrite 0x04#6 .word 0xFFFFFFFC#32 = .controlNoCommand := by decide
theorem test_write_post : commandOfWrite 0x14#6 .word 0x00030004#32 = .post 0x00030004#32 := by decide
theorem test_write_narrow : commandOfWrite 0x04#6 .half 1#32 = .registerWrite 0x04#6 .half 1#32 := by decide
theorem test_no_word_spells_a_command : decodeTableWord 32 1 = none := by decide

/-! ## Bytes on the line -/

/-- The check value of this generator and preset for the bytes "123456789" is published as DFh after inversion: 20h without
it (R5). -/
theorem test_crc8_check_value :
    crc8 [0x31, 0x32, 0x33, 0x34, 0x35, 0x36, 0x37, 0x38, 0x39] = 0x20#8 := by decide +kernel

/-- Frame lengths of section 1.8: a FIRST WDATA with 32 data bytes takes 37 bytes, a POLL 3. -/
theorem test_frame_lengths :
    (Frame.bytes { kind := .wdata, node := 0, toggle := false, first := true,
                   payload := List.replicate 34 0 }).length = 37 ∧
      (Frame.bytes { kind := .poll, node := 0, toggle := false, first := false, payload := [] }).length = 3 := by
  decide

/-- Header and control bytes of a FIRST COLLECT with toggle 1 to address 5 (11 section 11.6): 75h and 03h. -/
theorem test_frame_head :
    (Frame.bytes { kind := .collect, node := 4, toggle := true, first := true, payload := [] }).take 2 =
      [0x75#8, 0x03#8] := by decide

/-- A byte's levels: A5h goes out 0, 1 0 1 0 0 1 0 1, 1 (R1), and is sampled back. -/
theorem test_byte_levels :
    byteLevels 0xA5#8 = [false, true, false, true, false, false, true, false, true, true] ∧
      sampleByte (byteLevels 0xA5#8).tail = ⟨0xA5#8, true⟩ := by decide

/-! ## A small configuration and the states built on it -/

def lineCfg : LineConfig :=
  { enabledAtStart := true, rateCode := 1, pollPeriod := 2, replyTimeout := 8, retryLimit := 2, busyBudget := 2,
    busyBackoff := 5, missBudget := 3, dropLimit := 2, restartBudget := 1, settleTime := 50, cooldown := 5,
    probeMask := 0x0006#16 }

def cfg : LoadedConfig :=
  { rings := Vector.replicate 10 { base := 0x1000#64, exponent := 4 }, progress := 0x8000#64, coalescing := 2,
    holdoff := 50, lines := Vector.replicate 4 lineCfg }

/-- The bytes of a block with that configuration (11 section 11.4). -/
def block : List Byte :=
  (List.range 10).flatMap (fun _ => leBytes 8 0x1000 ++ [4] ++ List.replicate 7 0) ++ leBytes 8 0x8000 ++ [2, 50] ++
    List.replicate 6 0 ++
    (List.range 4).flatMap (fun _ => [1, 1, 2, 8, 2, 2, 5, 3, 2, 1, 50, 5] ++ leBytes 2 6 ++ [0, 0])

/-- Right after an accepted load: RUNNING, every line SETTLING. -/
def running : State := State.reset.enterRunning cfg

/-- RUNNING with line 2 alone supplied. -/
def onlyLine2 : State :=
  running.enterRunning { cfg with
    lines := (Vector.replicate 4 { lineCfg with enabledAtStart := false }).set 2 lineCfg }

/-- A state with line 0 changed. -/
def withLine (f : Line → Line) : State := running.setLine 0 (f (running.line 0))

/-- A line that is UP. -/
def up (ln : Line) : Line := { ln with driver := { ln.driver with state := .up, settle := none } }

/-- A PRESENT entry. -/
def present : Entry := { Entry.initial with state := .present, identity := some 0x11#32, capability := some 7#16 }

/-- A request of the kind code to address 2 with 3 bytes or as its length says. -/
def request (kind : Byte) (tag length target : BitVec 16) : Request :=
  { kind := kind, node := 2, tag := tag, action := 1, length := length, targetTag := target, hostAddr := 0x100#64,
    payload := List.replicate 24 0 }

/-- A STORE of 40 bytes that has acknowledged its first segment. -/
def storeTransfer : Transfer :=
  { tag := 13#16, node := 1, kind := .store, length := 40, hostAddr := 0x100#64, available := none, bytesDone := 32,
    next := .wdata 2, held := none, sessionOpen := true, busyCount := 0, deadline := none, abortFlag := false }

/-- A collection of 40 bytes from address 2 that has its buffer and 32 bytes. -/
def collecting : Collection :=
  { node := 1, offerLength := 40, buffer := some { addr := 0x9000#64, size := 512#16, id := 5#32 }, bytesWritten := 32,
    firstSent := true, next := .collect }

/-- An engine with an access in flight. -/
def accessing (a : HostAccess) (ln : Line) : Line :=
  { ln with engine := { ln.engine with state := .exchanging, access := some a } }

/-- A line with an exchange on the wire. -/
def onWire (st : XcvrState) (p : Purpose) (kind : FrameKind) (attempts : Nat) (ln : Line) : Line :=
  { up ln with
    xcvr := { state := st, frame := some { kind := kind, node := 1, toggle := false, first := false, payload := [] },
              attempts := attempts, garbled := 0, window := none },
    engine := { ln.engine with state := .exchanging, purpose := some p } }

/-! ## One step of each command -/

def got (o : Host.Outcome State Fault Refusal) : State :=
  match o with
  | .next t => t
  | .fault _ => State.reset
  | .refused _ => State.reset

theorem test_power_on_clears_int_enable :
    (got (exec .powerOn { State.reset with intEnable := 15#4 })).intEnable = 0#4 := by decide
theorem test_start_enters_loading : (got (exec .start State.reset)).device = .loading := by decide
theorem test_start_refused_in_running :
    (got (exec .start running)).error = .cmdRefused ∧ (got (exec .start running)).device = .running := by decide
theorem test_stop_refused_in_halted : (got (exec .stop State.reset)).error = .cmdRefused := by decide
theorem test_stop_switches_lines_off :
    ((got (exec .stop onlyLine2)).line 2).driver.state = .off := by decide +kernel
theorem test_reset_keeps_int_enable :
    (got (exec .reset { running with intEnable := 9#4 })).intEnable = 9#4 ∧ (got (exec .reset running)).device = .halted := by
  decide
theorem test_no_command_keeps_an_earlier_error :
    (got (exec .controlNoCommand { State.reset with error := .configRange })).error = .configRange := by decide
theorem test_post_begins_a_fetch :
    (got (exec (.post 0x00010004#32) running)).fetcher.fetch = some { ring := 4, phase := .read } := by decide +kernel
theorem test_post_refused_in_halted : (got (exec (.post 0#32) State.reset)).intStatus = 8#4 := by decide
theorem test_compl_consumed_past_the_producer :
    (got (exec (.complConsumed 1#32) running)).intStatus = 10#4 := by decide +kernel
theorem test_int_status_write_one_clears :
    (got (exec (.intStatusWrite 3#32) { State.reset with intStatus := 11#4 })).intStatus = 8#4 := by decide
theorem test_register_write_int_enable :
    (got (exec (.registerWrite 0x20#6 .word 0xFFFFFFF5#32) State.reset)).intEnable = 5#4 := by decide
theorem test_register_write_narrow_is_ignored :
    (got (exec (.registerWrite 0x20#6 .byte 0xF#32) State.reset)).intEnable = 0#4 := by decide
/-- A narrower read returns the bytes it addresses, at any offset; 24h..3Fh read 0 at any width (R171). -/
theorem test_read_addressed_bytes :
    let s := { State.reset with configBaseLo := 0x44332211#32 }
    s.readWindow 0x0D#6 .half = some 0x3322 ∧ s.readWindow 0x0D#6 .three = some 0x443322 ∧
      s.readWindow 0x0F#6 .byte = some 0x44 ∧ s.readWindow 0x0C#6 .word = some 0x44332211 ∧
      s.readWindow 0x25#6 .half = some 0 ∧ s.readWindow 0x26#6 .word = some 0 := by decide
theorem test_config_read_starts_the_part :
    (got (exec (.configReadDone (.ok block)) (got (exec .start State.reset)))).device = .running := by decide +kernel
/-- After 100 bytes the loader reads at the block address plus 100 (R159). -/
theorem test_config_read_address :
    (got (exec (.configReadDone (.ok (List.replicate 100 0)))
      (got (exec .start { State.reset with configBaseLo := 0x1000#32 })))).configRead = some 0x1064#64 := by decide +kernel
theorem test_config_read_first_bad_field :
    (got (exec (.configReadDone (.ok (List.replicate 240 0))) (got (exec .start State.reset)))).errorField = 2#8 := by
  decide +kernel
theorem test_settle_expiry_posts_line_up :
    ((got (exec (.settleTimerExpiry 1) running)).writer.write.map (·.record.code)) = some .lineUp := by decide +kernel
theorem test_cooldown_expiry_settles :
    ((got (exec (.cooldownTimerExpiry 0) (withLine (fun ln => { ln with driver := { ln.driver with
      state := .cooldown } })))).line 0).driver.state = .settling := by decide +kernel
theorem test_trip_goes_to_cooldown :
    let t := got (exec (.overcurrentTrip 0) running)
    (t.line 0).driver.state = .cooldown ∧ (t.line 0).driver.restartsLeft = 0 := by decide +kernel
/-- The result of a cut-off exchange counts the attempts finished: the one whose reply is arriving is not among them (R13). -/
theorem test_trip_keeps_the_finished_counts :
    (onWire .receiving .poll .poll 2 (running.line 0)).xcvr.cutOffResult.attempts = 1 ∧
      (onWire .sending .poll .poll 2 (running.line 0)).xcvr.cutOffResult.attempts = 2 ∧
      (onWire .sending .poll .poll 2 (running.line 0)).xcvr.cutOffResult.cause = .trip := by decide +kernel
/-- LINE_UP owed within the STOP cancellation goes before LINE_OFF, into the first empty slot (R25, R94, R165; log 27). -/
theorem test_line_up_before_line_off :
    let ln := running.line 0
    let owing := { up ln with engine := { ln.engine with cont := .stopLineOff, lineUpOwed := true } }
    ((owing.proceed (running.ctx 0) { device := .stopping, fetching := false } []).bind (·.1.engine.slot)).map
      (·.code) = some .lineUp := by decide +kernel
theorem test_poll_expiry_begins_a_round :
    ((got (exec (.pollTimerExpiry 0) (withLine (fun ln => { (up ln).setEntry 1 present with
      rounds := { ln.rounds with pollTimer := some 0 } })))).line 0).xcvr.frame.map (·.kind) = some .poll := by
  decide +kernel
theorem test_backoff_expiry_retries_the_command :
    ((got (exec (.busyBackoffExpiry 0 .urgent) (withLine (fun ln => { (up ln).setEntry 1 present with
      engine := { ln.engine with urgent := [request 1 7 3 0], urgentBusy := 1, urgentDeadline := some 0 } })))).line
        0).xcvr.frame.map (·.kind) = some .command := by decide +kernel
theorem test_holdoff_expiry_announces :
    (got (exec .holdoffExpiry { State.reset with writer := { Writer.initial with
      unannounced := 1, holdoff := some 0 } })).intStatus = 1#4 := by decide
theorem test_frame_sent_opens_the_window :
    ((got (exec (.frameSent 0) (withLine (onWire .sending .poll .poll 0)))).line 0).xcvr.window = some 800 := by
  decide +kernel
theorem test_start_bit_begins_a_reply :
    ((got (exec (.nodeStartBit 0) (withLine (onWire .waiting .poll .poll 1)))).line 0).xcvr.state = .receiving := by
  decide +kernel
theorem test_window_close_repeats_the_frame :
    ((got (exec (.replyWindowClose 0) (withLine (onWire .waiting .poll .poll 2)))).line 0).xcvr.state = .sending := by
  decide +kernel
theorem test_window_close_counts_a_miss :
    (((got (exec (.replyWindowClose 0) (withLine (fun ln =>
      (onWire .waiting .poll .poll 3 ln).setEntry 1 present)))).line 0).entry 1).missCount = 1 := by decide +kernel
/-- An ACK to a COMMAND inverts the send toggle (R14). -/
theorem test_ack_inverts_the_send_toggle :
    (((got (exec (.endOfReply 0 (Reply.received 1
        { kind := .ack, payload := [], offer := false, alert := false, last := false, toggle := false }))
      (withLine (fun ln => (onWire .receiving .urgentSend .command 1
        { ln with engine := { ln.engine with urgent := [request 1 7 3 0] } }).setEntry 1 present)))).line 0).entry
          1).sendToggle = true := by decide +kernel
theorem test_overrun_is_garbled :
    ((got (exec (.replyOverrun 0) (withLine (onWire .receiving .poll .poll 1)))).line 0).xcvr.garbled = 1 := by
  decide +kernel

/-- A fetch in flight from the ring. -/
def fetching (r : RingId) (phase : FetchPhase) (s : State) : State :=
  { s with fetcher := { pointer := r, fetch := some { ring := r, phase := phase } } }

theorem test_ring_read_advances_the_consumer :
    ((got (exec (.ringReadDone (.ok (List.replicate 48 0))) (fetching 4 .read running))).ring 4).consumer = 1 := by
  decide +kernel
/-- Taking the record of slot 5 of ring 4 writes 6 to word 4 of the progress area (R145, 11 section 11.2). -/
theorem test_progress_write_on_the_bus :
    (got (exec (.ringReadDone (.ok (List.replicate 48 0))) (fetching 4 .read
      (running.setRing 4 { tail := 9, consumer := 5, broken := false })))).progressWrite =
        some (0x8008#64, [6, 0]) := by decide +kernel
/-- The read in flight is of slot 5 of ring 4, 48 bytes a slot (R140, R143). -/
theorem test_fetch_read_on_the_bus :
    (fetching 4 .read (running.setRing 4 { tail := 9, consumer := 5, broken := false })).fetchRead =
      some (0x10F0#64, 48) := by decide +kernel
theorem test_ring_read_answers_a_bad_request :
    ((got (exec (.ringReadDone (.ok (List.replicate 48 0))) (fetching 0 .read running))).writer.write.map
      (·.record.code)) = some .badRequest := by decide +kernel
/-- An ABORT in a routine ring is a BAD_REQUEST whose RESULT has the target tag as its detail (R116). -/
theorem test_routine_abort_names_its_target :
    (({ running.line 0 with engine := { (running.line 0).engine with
      routine := [request 4 7 0 9] } } : Line).routineUnit (running.ctx 0) (request 4 7 0 9)).engine.owed.map
        (fun o => (o.record.code, o.record.detail)) = [(.badRequest, 9#32)] := by decide +kernel
theorem test_progress_error_breaks_the_ring :
    ((got (exec (.progressWriteDone .busError) (fetching 8 .progress running))).ring 8).broken = true := by
  decide +kernel
theorem test_segment_read_sends_the_wdata :
    ((got (exec (.segmentReadDone 0 (.ok [1, 2, 3])) (withLine (fun ln =>
      accessing (.segmentRead 0x100#64 3) ((up { ln with engine := { ln.engine with
        routine := [request 2 13 3 0] } }).setEntry 1 present))))).line 0).xcvr.frame.map (·.payload) =
          some [3, 0, 1, 2, 3] := by decide +kernel
theorem test_response_written_completes :
    ((got (exec (.responseWriteDone 0 .ok) (withLine (fun ln => accessing (.responseWrite .urgent 0x100#64 [1, 2])
      (up { ln with engine := { ln.engine with urgent := [request 1 7 3 0] } }))))).writer.write.map (·.record.count)) =
        some 2#16 := by decide +kernel

/-- A FETCH of 40 bytes with 32 of them written. -/
def fetchTransfer : Transfer :=
  { storeTransfer with kind := .fetch, available := some 40, next := .rdata }

/-- A line whose active FETCH has a segment write in flight. -/
def fetchLine (after : FetchAfter) (ln : Line) : Line :=
  accessing (.fetchWrite 0x120#64 (List.replicate 8 0) after)
    ((up { ln with engine := { ln.engine with
      routine := [request 3 13 40 0], transfer := some fetchTransfer } }).setEntry 1 present)

theorem test_fetch_written_counts :
    ((got (exec (.fetchSegmentWriteDone 0 .ok) (withLine (fetchLine .last)))).writer.write.map (·.record.count)) =
      some 40#16 := by decide +kernel
theorem test_fetch_error_does_not_count :
    ((got (exec (.fetchSegmentWriteDone 0 .busError) (withLine (fetchLine .last)))).writer.write.map (·.record.count)) =
      some 32#16 := by decide +kernel

/-- A line whose collection has a segment write in flight. -/
def collectLine (after : CollectAfter) (ln : Line) : Line :=
  accessing (.collectWrite 0x9020#64 (List.replicate 8 0) after)
    ((up { ln with
      rounds := { ln.rounds with round := some { kind := .ordinary, turns := [.poll 1], position := 0 } },
      engine := { ln.engine with collection := some collecting } }).setEntry 1 { present with offerLength := some 40 })

theorem test_collect_written_closes :
    ((got (exec (.collectSegmentWriteDone 0 .ok) (withLine (collectLine .last)))).line 0).xcvr.frame.map (·.payload) =
      some [3] := by decide +kernel
theorem test_completion_written_counts :
    (got (exec (.completionWriteDone .ok) { running with writer := { Writer.initial with
      write := some { record := ringFaultRecord 0 0, stamp := 0, phase := true } } })).writer.producer = 1#16 := by
  decide +kernel
/-- The 18th record goes to slot 1 of the 16 of descriptor 9 (R149). -/
theorem test_completion_address :
    ({ running with writer := { Writer.initial with
      producer := 17, write := some { record := ringFaultRecord 0 0, stamp := 0, phase := false } } } :
        State).completionWrite.map (·.1) = some 0x1010#64 := by decide +kernel
theorem test_completion_error_faults :
    (got (exec (.completionWriteDone .busError) { running with writer := { Writer.initial with
      write := some { record := ringFaultRecord 0 0, stamp := 0, phase := true } } })).device = .faulted := by
  decide +kernel

/-! ## A node that keeps its obligations -/

/-- A node at address 2 with an offer of 40 bytes. -/
def node : NodeState :=
  { address := 1, identity := 0x11#32, capability := 7#16, actedToggle := true, actedKind := none, ackPayload := [],
    dataToggle := true, session := none, offer := some (List.replicate 40 0), collection := none, alert := false }

/-- A frame to that node. -/
def toNode (kind : FrameKind) (first : Bool) (payload : List Byte) : Frame :=
  { kind := kind, node := 1, toggle := false, first := first, payload := payload }

/-- A frame that belongs to no session and no collection is refused also by a node that is busy (R19, R20, R21). -/
theorem test_node_refuses_what_belongs_nowhere :
    [toNode .rdata false [], toNode .collect false [], toNode .wdata false [1]].map
      (fun f => (node.answer .busy f).2.map (·.kind)) =
        [some .nakRefused, some .nakRefused, some .nakRefused] := by decide +kernel

/-- A node that cannot produce the segment now answers NAK_BUSY and changes nothing (R19). -/
theorem test_node_busy_with_its_offer :
    (node.answer .busy (toNode .collect true [])).1 = node ∧
      (node.answer .busy (toNode .collect true [])).2.map (·.kind) = some .nakBusy := by decide +kernel

/-- A refused WDATA without FIRST closes a store session and leaves a read session open (R20). -/
theorem test_node_refusal_closes_its_own_session :
    let reading := { node with session := some (.read { rest := [1], lastSent := none }) }
    let storing := { node with session := some (.store 4 [1]) }
    (reading.answer (.act []) (toNode .wdata false [1])).1.session = reading.session ∧
      (storing.answer (.act []) (toNode .wdata false [1, 2, 3, 4])).1.session = none := by decide +kernel

/-- A frame with a wrong CRC-8 is not answered, the same frame with the right one is (R22). -/
theorem test_node_checks_the_crc :
    let bytes := (toNode .poll false []).bytes
    (node.hear .busy (bytes.dropLast ++ [bytes.getLastD 0 ^^^ 1])).2 = none ∧
      (node.hear (.act []) bytes).2.isSome = true := by decide +kernel

/-! ## A rich state that meets every invariant

Line 0 receives a reply to a COMMAND, with a place reserved for a read in flight; line 1 settles; line 2 waits for a reply to
a POLL of its round; line 3 holds an active STORE in busy backoff and a collection. The writer writes a RESULT. -/

def rich : State :=
  fetching 4 .read
    ((({ running with
        pending := [.frameSent 0],
        cache := [{ addr := 0x9400#64, size := 512#16, id := 6#32 }],
        cacheReserved := 1,
        writer := { Writer.initial with
          write := some { record := resultRecord 1 (request 1 9 3 0) .ok 0 0, stamp := 0, phase := true } } }.setLine 0
      ((onWire .receiving .urgentSend .command 1 { running.line 0 with engine := { (running.line 0).engine with
        urgent := [request 1 7 3 0], routineReserved := 1 } }).setEntry 1 present)).setLine 2
      ((onWire .waiting .poll .poll 2 { running.line 2 with
        rounds := { (running.line 2).rounds with
          pollTimer := some 5, round := some { kind := .ordinary, turns := [.poll 1], position := 0 } } }).setEntry 1
        present)).setLine 3
      ((up { running.line 3 with
        rounds := { (running.line 3).rounds with
          pollTimer := some 5, round := some { kind := .ordinary, turns := [.poll 1], position := 0 } },
        engine := { (running.line 3).engine with
          routine := [request 2 13 40 0], transfer := some { storeTransfer with busyCount := 1, deadline := some 100 },
          collection := some collecting } }).setEntry 1 { present with offerLength := some 40 }))

theorem rich_sound : rich.Sound where
  wire := by unfold State.wireSafe Line.wireSafe Frame.agrees; decide +kernel
  queues := by
    refine ⟨fun l side => ?_, by decide +kernel, by decide +kernel⟩
    cases side <;> revert l <;> decide +kernel
  ring := by unfold State.ringSound; decide +kernel
  device := by
    refine ⟨by decide, by decide, fun _ => ⟨by decide, by decide +kernel⟩, by decide, by decide⟩
  accounted := by unfold State.accountedFor; decide
  entries := by unfold State.entriesWf Entry.wf; decide +kernel
  drivers := by unfold State.driversSound; decide +kernel
  active := by unfold State.activeSound Line.activeIsHead; decide +kernel
  collections := by unfold State.collectionsSound Line.collectionPlaced; decide +kernel

/-- `rich` with the read of a supply ring slot in flight and an ARRIVAL being written. -/
def richSupply : State :=
  fetching 8 .read { rich with writer := { rich.writer with
    write := some { record := arrivalRecord 0 2 .ok 1 40, stamp := 0, phase := true } } }

theorem richSupply_sound : richSupply.Sound where
  wire := by unfold State.wireSafe Line.wireSafe Frame.agrees; decide +kernel
  queues := by
    refine ⟨fun l side => ?_, by decide +kernel, by decide +kernel⟩
    cases side <;> revert l <;> decide +kernel
  ring := by unfold State.ringSound; decide +kernel
  device := by
    refine ⟨by decide, by decide, fun _ => ⟨by decide, by decide +kernel⟩, by decide, by decide⟩
  accounted := by unfold State.accountedFor; decide
  entries := by unfold State.entriesWf Entry.wf; decide +kernel
  drivers := by unfold State.driversSound; decide +kernel
  active := by unfold State.activeSound Line.activeIsHead; decide +kernel
  collections := by unfold State.collectionsSound Line.collectionPlaced; decide +kernel

/-! ## Witnesses: each shows states and operands that meet a statement's hypotheses, clause by clause -/

theorem witness_IdleStepIsOneMicrosecond :
    State.reset.pending = [] ∧ State.reset.device ≠ .running ∧ State.reset.device ≠ .stopping ∧
      running.pending = [] ∧ running.device = .running := by decide

theorem witness_RegistersChangeOnlyByTheirCommands :
    Instr.start ≠ .powerOn ∧ exec .start State.reset = .next (got (exec .start State.reset)) ∧
      (∀ offset size value, Instr.start ≠ .registerWrite offset size value) ∧
      (∀ read, Instr.start ≠ .configReadDone read) ∧ (∀ value, Instr.start ≠ .intStatusWrite value) ∧
      Instr.start ≠ .reset :=
  ⟨by decide, rfl, nofun, nofun, nofun, by decide⟩

theorem witness_step : rich.Sound ∧ step rich = .next (got (step rich)) := ⟨rich_sound, rfl⟩

theorem witness_StepKeepsWireSafe : rich.Sound ∧ step rich = .next (got (step rich)) := witness_step
theorem witness_StepKeepsQueuesBounded : rich.Sound ∧ step rich = .next (got (step rich)) := witness_step
theorem witness_StepKeepsCompletionRing : rich.Sound ∧ step rich = .next (got (step rich)) := witness_step
theorem witness_StepKeepsDeviceState : rich.Sound ∧ step rich = .next (got (step rich)) := witness_step
theorem witness_StepLeavesNothingTakenInHalted : rich.Sound ∧ step rich = .next (got (step rich)) := witness_step
theorem witness_StepKeepsEntriesAndDrivers : rich.Sound ∧ step rich = .next (got (step rich)) := witness_step
theorem witness_StepKeepsContextsPlaced : rich.Sound ∧ step rich = .next (got (step rich)) := witness_step

/-- The ACK of node 2 to the COMMAND on line 0. -/
def ack : Reply := { kind := .ack, payload := [], offer := false, alert := false, last := false, toggle := false }

theorem witness_TogglesChangeOnlyByAValidAck :
    rich.Sound ∧ (let c := Instr.endOfReply 0 (Reply.received 1 ack)
      c ≠ .powerOn ∧ exec c rich = .next (got (exec c rich)) ∧ (rich.line 0).xcvr.state = .receiving ∧
        ∃ f ∈ (rich.line 0).xcvr.frame, f.node = 1 ∧ judge f (Reply.received 1 ack) = some ack ∧ ack.kind = .ack ∧
          (((got (exec c rich)).line 0).entry 1).sendToggle ≠ ((rich.line 0).entry 1).sendToggle) :=
  ⟨rich_sound, by decide +kernel, rfl, by decide +kernel, by decide +kernel⟩

/-- A record taken, and a RESULT written: the two commands that move the count. -/
theorem witness_RequestsAreAnsweredOnce :
    rich.Sound ∧ rich.takes (fun r => r.val < 8) (.ringReadDone (.ok (List.replicate 48 0))) = 1 ∧
      rich.writes .result (.completionWriteDone .ok) = 1 ∧
      (Instr.ringReadDone (.ok (List.replicate 48 0))).wellFormed = true ∧
      exec (.completionWriteDone .ok) rich = .next (got (exec (.completionWriteDone .ok) rich)) :=
  ⟨rich_sound, by decide +kernel, by decide +kernel, by decide +kernel, rfl⟩

theorem witness_BuffersAreReturnedOnce :
    richSupply.Sound ∧ richSupply.takes (fun r => r = supplyRing) (.ringReadDone (.ok (List.replicate 16 0))) = 1 ∧
      richSupply.writes .arrival (.completionWriteDone .ok) = 1 ∧
      (Instr.ringReadDone (.ok (List.replicate 16 0))).wellFormed = true ∧
      exec (.completionWriteDone .ok) richSupply = .next (got (exec (.completionWriteDone .ok) richSupply)) :=
  ⟨richSupply_sound, by decide +kernel, by decide +kernel, by decide +kernel, rfl⟩

theorem witness_RecordsKeepTheirOrder :
    rich.Sound ∧ (let c := Instr.replyOverrun 0
      c.wellFormed = true ∧ c ≠ .powerOn ∧ c ≠ .reset ∧ (∀ read, c ≠ .configReadDone read) ∧
        exec c rich = .next (got (exec c rich)) ∧ (∀ write, c ≠ .completionWriteDone write)) ∧
      rich.writer.write.isSome = true :=
  ⟨rich_sound, ⟨rfl, by decide, by decide, nofun, rfl, nofun⟩, rfl⟩

theorem witness_WhatFollowsLeavesTheRest : (rich.line 0).engine.state = .exchanging := by decide +kernel

/-- A load under way. -/
def loading (base : HostAddr) (failed : Bool) : State :=
  { State.reset with device := .loading, loader := some { base := base, copy := [], failed := failed } }

/-- STOPPING and FAULTED. -/
def stopping : State := { running with device := .stopping }
def faulted : State := { running with device := .faulted }

theorem witness_ControlCommandTable :
    State.reset.device = .halted ∧ running.device = .running ∧ (loading 0 false).device = .loading ∧
      stopping.device = .stopping ∧ faulted.device = .faulted := by decide

theorem witness_StopReturnsTheCache :
    rich.device = .running ∧ rich.cache ≠ [] ∧ (loading 0 false).device = .loading := by decide +kernel

/-- The highest block address whose block stays below the top of the address space. -/
def topBase : HostAddr := 0xFFFFFFFFFFFFFF10#64

/-- One read short of the block by a byte, one that completes it, a failed load, a block past the top, a bad field. -/
theorem witness_LoadReadsTheBlock :
    (loading 0 false).device = .loading ∧ (loading 0 false).loader = some { base := 0, copy := [], failed := false } ∧
      0 + (List.replicate 239 (0 : Byte)).length < 240 ∧ 0 + 239 < 240 ∧ 240 ≤ 0 + 240 ∧
      240 ≤ 0 + (List.replicate 240 (0 : Byte)).length ∧ 2 ^ 64 < (topBase + 1).toNat + 240 ∧
      topBase.toNat + 240 ≤ 2 ^ 64 ∧
      (LoadedConfig.ofBytes (([] ++ List.replicate 240 0 : List Byte).take 240)).firstBadField = some 2 := by
  decide +kernel

theorem witness_AcceptedBlockStartsThePart :
    (loading topBase false).device = .loading ∧ topBase.toNat + 240 ≤ 2 ^ 64 ∧ 240 ≤ 0 + block.length ∧
      (loading topBase false).loader = some { base := topBase, copy := [], failed := false } ∧
      (LoadedConfig.ofBytes (([] ++ block).take 240)).firstBadField = none := by decide +kernel

/-- RUNNING with four records of ring 4 posted. -/
def posted : State := running.setRing 4 { tail := 4, consumer := 0, broken := false }

/-- The last index of a ring of 16 and the same tail again are taken; one past the last, an earlier tail, a ring that does
not exist and a device that is not RUNNING are not. -/
theorem witness_PostReplacesTheTail :
    (let v : Word := 0x000F0004#32;
      (v.extractLsb' 0 4).toNat = (4 : RingId).val ∧ (v.extractLsb' 16 10).toNat < posted.ringSize 4 ∧
        posted.outstanding 4 ≤ posted.outstandingTo 4 (v.extractLsb' 16 10).toNat) ∧
      posted.outstanding 4 ≤ posted.outstandingTo 4 4 ∧ posted.outstandingTo 4 3 < posted.outstanding 4 ∧
      ¬16 < posted.ringSize 4 ∧ (∀ r : RingId, (0x00000009#32 : Word).toNat % 16 ≠ r.val) ∧
      State.reset.device ≠ .running ∧ posted.device = .running := by decide +kernel

/-- A fetch in progress; nothing eligible; ring 4 the first eligible one, four places after the pointer's next. -/
theorem witness_PostStartsTheNextFetch :
    (fetching 0 .read running).fetcher.fetch.isSome = true ∧ (∀ q, (running.setRing 4 (running.ring 4)).eligible q = false) ∧
      running.fetcher.fetch = none ∧
      (let s' := running.setRing 4 { running.ring 4 with tail := 1 };
        (∀ j, j < 4 → s'.eligible ⟨(running.fetcher.pointer.val + 1 + j) % 9, Nat.mod_lt _ (by decide)⟩ = false) ∧
          s'.eligible ⟨(running.fetcher.pointer.val + 1 + 4) % 9, Nat.mod_lt _ (by decide)⟩ = true) := by
  decide +kernel

/-- RUNNING with three records written. -/
def written3 : State := { running with writer := { running.writer with producer := 3 } }

theorem witness_ComplConsumedAdvances :
    State.reset.device = .halted ∧ written3.device = .running ∧ written3.complSize = 16 ∧
      written3.outstandingCompletions = 3 ∧ (4 + 16 - written3.writer.consumed.toNat % 16) % 16 = 4 ∧
      (3 + 16 - written3.writer.consumed.toNat % 16) % 16 = 3 ∧
      (0 + 16 - written3.writer.consumed.toNat % 16) % 16 = 0 := by decide +kernel

theorem witness_RegisterWriteByOffset :
    0x24#6 ≤ 0x24#6 ∧ 0x24#6 ≤ 0x3F#6 ∧ (0x05#6 : BitVec 6).toNat % 4 ≠ 0 ∧ 0x23#6 < 0x24#6 ∧ 0x20#6 < 0x24#6 ∧
      (0x20#6 : BitVec 6).toNat % 4 = 0 ∧ (0x22#6 : BitVec 6).toNat % 4 ≤ 2 ∧ (0x21#6 : BitVec 6).toNat % 4 ≤ 1 := by
  decide

/-- A loaded configuration with a completion ring of 16 slots, full and one short of it; none loaded after power-on. -/
theorem witness_StatusShowsTheDevice :
    running.loaded = some cfg ∧ State.reset.loaded = none ∧
      ({ running with writer := { Writer.initial with producer := 16 } } : State).status.getLsbD 7 = true ∧
      ({ running with writer := { Writer.initial with producer := 15 } } : State).status.getLsbD 7 = false := by
  decide +kernel

/-- Line 0 SETTLING with an engine that is BLOCKED. -/
def settlingBlocked : State := withLine (fun ln => { ln with engine := { ln.engine with state := .blocked } })

/-- Line 0 in COOLDOWN. -/
def cooling : State :=
  withLine (fun ln => { ln with driver := { ln.driver with state := .cooldown, settle := none, cooldown := some 0 } })

theorem witness_SettleAndCooldownExpiry :
    settlingBlocked.device = .running ∧ (settlingBlocked.line 0).driver.state = .settling ∧
      (settlingBlocked.line 0).engine.state ≠ .idle ∧ (running.line 0).driver.state = .settling ∧
      (running.line 0).engine.state = .idle ∧ (cooling.line 0).driver.state = .cooldown ∧
      ¬((State.reset.device = .running ∨ State.reset.device = .stopping)) := by decide +kernel

theorem witness_TripRemovesTheSupply :
    rich.Sound ∧ rich.device = .running ∧ (rich.line 1).driver.state = .settling ∧ (rich.line 0).driver.state = .up ∧
      (rich.line 0).xcvr.state ≠ .idle ∧ (rich.line 3).driver.state = .up ∧ (rich.line 3).xcvr.state = .idle :=
  ⟨rich_sound, by decide +kernel⟩

theorem witness_TripIsReported :
    rich.Sound ∧ rich.device = .running ∧ (rich.line 1).driver.state = .settling ∧
      (rich.line 1).engine.tripPending = false ∧ (rich.line 1).engine.cont = .boundary ∧
      (∀ o ∈ (rich.line 1).engine.owed, o.effect ≠ .driverFailed) :=
  ⟨rich_sound, by decide +kernel⟩

theorem witness_PollExpiryMarksARound :
    rich.device = .running ∧ (rich.line 2).rounds.pollTimer.isSome = true ∧ (rich.line 2).engine.state ≠ .idle ∧
      (rich.line 3).rounds.pollTimer.isSome = true ∧ (rich.line 3).engine.state = .idle ∧
      (rich.line 1).rounds.pollTimer = none := by decide +kernel

/-- Line 0 with its urgent head in busy backoff. -/
def urgentBackoff : State :=
  withLine (fun ln => { (up ln).setEntry 1 present with
    engine := { ln.engine with urgent := [request 1 7 3 0], urgentBusy := 1, urgentDeadline := some 0 } })

theorem witness_BackoffExpiryFreesTheHead :
    urgentBackoff.device = .running ∧ (urgentBackoff.line 0).engine.urgentDeadline.isSome = true ∧
      rich.device = .running ∧ (rich.line 3).engine.urgentDeadline = none ∧
      (∃ t ∈ (rich.line 3).engine.transfer, t.deadline.isSome = true) ∧ (rich.line 1).engine.transfer = none := by
  decide +kernel

/-- RUNNING with one record unannounced and the holdoff timer running. -/
def heldOff : State := { running with writer := { running.writer with unannounced := 1, holdoff := some 0 } }

theorem witness_HoldoffExpiryAnnounces :
    heldOff.writer.holdoff.isSome = true ∧ 0 < heldOff.writer.unannounced ∧ running.writer.holdoff = none ∧
      ({ heldOff with writer := { heldOff.writer with unannounced := 0 } } : State).writer.unannounced = 0 := by
  decide

/-- Line 0 with the exchange of a poll turn on its wire, in the given Transceiver state after so many attempts. -/
def polling (st : XcvrState) (attempts : Nat) : State :=
  withLine (fun ln => (onWire st .poll .poll attempts { ln with
    rounds := { ln.rounds with round := some { kind := .ordinary, turns := [.poll 1], position := 0 } } }).setEntry 1
      present)

theorem witness_FrameSentAndStartBit :
    ((polling .sending 0).line 0).xcvr.state = .sending ∧ ((polling .waiting 1).line 0).xcvr.state = .waiting ∧
      ((polling .waiting 1).line 0).xcvr.state ≠ .sending ∧ ((polling .sending 0).line 0).xcvr.state ≠ .waiting := by
  decide +kernel

/-- Attempts 2 and 1 of 3. -/
theorem witness_FailedAttemptIsRepeated :
    rich.Sound ∧ (rich.line 2).xcvr.state = .waiting ∧
      (rich.line 2).xcvr.attempts + 1 = 1 + (rich.lineConfig 2).retryLimit ∧
      (rich.line 0).xcvr.state = .receiving ∧ (rich.line 0).xcvr.attempts < 1 + (rich.lineConfig 0).retryLimit ∧
      ∃ f ∈ (rich.line 0).xcvr.frame, judge f [] = none :=
  ⟨rich_sound, by decide +kernel⟩

/-- The third attempt of 3. -/
theorem witness_ExchangeEndsAtTheLimitOrValid :
    ((polling .waiting 3).line 0).xcvr.state = .waiting ∧
      1 + ((polling .waiting 3).lineConfig 0).retryLimit = ((polling .waiting 3).line 0).xcvr.attempts ∧
      ((polling .receiving 3).line 0).xcvr.state = .receiving ∧
      (∃ f ∈ ((polling .receiving 3).line 0).xcvr.frame, judge f [] = none ∧
        judge f (Reply.received 1 { ack with payload := [0] }) = some { ack with payload := [0] }) := by
  decide +kernel

/-- A reply at the edge of what each frame kind accepts. -/
theorem witness_AcceptedReplyTable :
    (let f := fun (k : FrameKind) => ({ kind := k, node := 0, toggle := false, first := false, payload := [4, 0] } : Frame)
      let r := fun (n : Nat) => { ack with payload := List.replicate n 0 }
      replyAccepted (f .poll) { ack with payload := [1], offer := true } = true ∧
        replyAccepted (f .poll) { ack with payload := [1] } = false ∧
        replyAccepted (f .identify) (r 6) = true ∧ replyAccepted (f .command) (r 32) = true ∧
        replyAccepted (f .command) (r 33) = false ∧ replyAccepted (f .wdata) (r 0) = true ∧
        replyAccepted (f .ropen) { ack with payload := [4, 0] } = true ∧
        replyAccepted (f .ropen) { ack with payload := [5, 0] } = false ∧
        replyAccepted (f .rdata) (r 32) = true ∧ replyAccepted (f .collect) { r 32 with last := true } = true ∧
        replyAccepted (f .rdata) { r 1 with last := true } = true ∧ replyAccepted (f .rdata) (r 31) = false ∧
        replyAccepted (f .close) (r 0) = true ∧ replyAccepted (f .poll) { ack with kind := .nakBusy } = true ∧
        replyAccepted (f .poll) { ack with kind := .nakRefused } = false ∧
        replyAccepted (f .collect) { ack with kind := .nakRefused } = true) := by decide

/-- A frame to the node, one to another node, and bytes whose last is not their CRC-8. -/
theorem witness_JudgeReadsWhatANodeSends :
    (toNode .poll false []).node = node.address ∧ ({ toNode .poll false [] with node := 2 } : Frame).node ≠ node.address ∧
      crc8 ([0x12, 0, 0] : List Byte).dropLast ≠ ([0x12, 0, 0] : List Byte).getLastD 0 := by decide +kernel

/-- A loaded configuration and a record being written. -/
theorem witness_CompletionRecordReadsBack :
    running.loaded = some cfg ∧
      ({ running with writer := { Writer.initial with
        write := some { record := ringFaultRecord 0 0, stamp := 0, phase := true } } } : State).writer.write =
          some { record := ringFaultRecord 0 0, stamp := 0, phase := true } := ⟨rfl, rfl⟩

/-- A line with a collection, its CLOSE COLLECTED on the wire. -/
def closingCollection : Line :=
  onWire .receiving .closeCollected .close 1
    { running.line 0 with engine := { (running.line 0).engine with
        collection := some { collecting with next := .close } } }

theorem witness_ExchangeEndTouchesOneEntry :
    closingCollection.engine.purpose = some .closeCollected ∧
      (∃ f ∈ closingCollection.xcvr.frame, ∃ k ∈ closingCollection.engine.collection, k.node = f.node) := by
  decide +kernel

/-- A line with an entry for node 2 and a frame to it on the wire. -/
def facing (e : Entry) (p : Purpose) (kind : FrameKind) : Line :=
  (onWire .waiting p kind 3 (running.line 0)).setEntry 1 e

/-- A SILENT entry. -/
def silent : Entry := { present with state := .silent }

/-- A CONFLICT entry. -/
def conflict : Entry := { Entry.initial with state := .conflict }

/-- One below and at the miss budget of 3 and the drop limit of 2; the IDENTIFY of a VACANT, a SILENT and a CONFLICT entry,
each attempt GARBLED or not. -/
theorem witness_FailedExchangeCountsAMiss :
    (facing present .poll .poll).engine.purpose = some .poll ∧
      (∃ f ∈ (facing present .poll .poll).xcvr.frame, f.kind = .poll ∧
        ((facing present .poll .poll).entry f.node).state = .present) ∧
      ({ present with missCount := 1 } : Entry).missCount + 1 < lineCfg.missBudget ∧
      lineCfg.missBudget ≤ ({ present with missCount := 2 } : Entry).missCount + 1 ∧
      (∃ f ∈ (facing silent .poll .poll).xcvr.frame, ((facing silent .poll .poll).entry f.node).state = .silent) ∧
      silent.silentMisses + 1 < lineCfg.dropLimit ∧
      lineCfg.dropLimit ≤ ({ silent with silentMisses := 1 } : Entry).silentMisses + 1 ∧
      (∃ f ∈ (facing Entry.initial .identifyTurn .identify).xcvr.frame, f.kind = .identify ∧
        ((facing Entry.initial .identifyTurn .identify).entry f.node).state = .vacant) ∧
      (∃ f ∈ (facing silent .rejoin .identify).xcvr.frame, f.kind = .identify ∧
        ((facing silent .rejoin .identify).entry f.node).state = .silent) ∧
      (∃ f ∈ (facing conflict .identifyTurn .identify).xcvr.frame, f.kind = .identify ∧
        ((facing conflict .identifyTurn .identify).entry f.node).state = .conflict) ∧
      (facing conflict .identifyTurn .identify).engine.purpose = some .identifyTurn ∧
      Purpose.identifyTurn ≠ .closeCollected := by decide +kernel

/-- The IDENTIFY reply of the recorded node and of another one; a NAK_REFUSED to a COMMAND of a PRESENT entry. -/
theorem witness_ValidIdentifyDecidesTheEntry :
    (let same := { ack with payload := [0x11, 0, 0, 0, 7, 0] }
      let other := { ack with payload := [0x12, 0, 0, 0, 7, 0] }
      same.kind = .ack ∧ Entry.initial.state = .vacant ∧ silent.state = .silent ∧
        silent.identity = some (identityOf same) ∧ present.state = .present ∧
        present.identity = some (identityOf same) ∧ present.silentMisses = 0 ∧ present.rejoinCheck = false ∧
        present.identity ≠ some (identityOf other)) ∧
      ({ ack with kind := .nakRefused } : Reply).kind ≠ .ack ∧ FrameKind.command ≠ .identify ∧
      ({ present with missCount := 2 } : Entry).state = .present := by decide

/-- Addresses 0, 12 and 13; both faults at once; an ABORT with address 0. -/
theorem witness_BadNodeCheck :
    (request 1 7 0 0).badRequest .urgent = true ∧ (request 1 7 24 0).badRequest .routine = false ∧
      requestKind (request 1 7 24 0).kind = some .send ∧
      (running.line 0).checkRecord .urgent { request 7 7 0 0 with node := 0 } = some .badNode ∧
      (running.line 0).checkRecord .urgent { request 7 7 0 0 with node := 13 } = some .badNode ∧
      (running.line 0).checkRecord .urgent { request 7 7 0 0 with node := 12 } ≠ some .badNode ∧
      requestKind (4 : Byte) = some .abort ∧ requestKind (8 : Byte) = some .power ∧
      (let ln := { running.line 0 with engine := { (running.line 0).engine with
          urgent := [request 0 7 0 0], routine := [request 0 8 0 0] } };
        ln.engine.urgentBusy = 0 ∧ ln.engine.transfer = none ∧
          ln.checkRecord .urgent (request 0 7 0 0) = some .badRequest ∧
          ln.checkRecord .routine (request 0 8 0 0) = some .badRequest) ∧
      (let ln := { running.line 0 with engine := { (running.line 0).engine with routine := [request 4 8 0 9] } };
        ln.engine.transfer = none ∧ ln.checkRecord .routine (request 4 8 0 9) = some .badRequest) := by decide +kernel

theorem witness_ChecksAtSelection :
    (request 2 7 4096 0).badRequest .routine = false ∧ requestKind (request 2 7 4096 0).kind = some .store ∧
      nodeOf (request 2 7 4096 0).node = some 1 ∧ nodeOf 12 = some 11 ∧ (running.line 0).driver.state ≠ .up ∧
      (rich.line 0).driver.state = .up ∧ ((rich.line 0).entry 1).state = .present ∧
      ((rich.line 0).entry 0).state = .vacant ∧ (request 7 7 0 0).badRequest .urgent = false ∧
      requestKind (7 : Byte) = some .probe ∧ (request 5 7 0 0).badRequest .urgent = false ∧
      requestKind (5 : Byte) = some .bar ∧
      (let abort := { request 4 7 0 9 with node := 0 }; abort.badRequest .urgent = false ∧
        requestKind abort.kind = some .abort ∧ nodeOf abort.node = none) := by decide +kernel

theorem witness_SelectionOrder :
    (rich.line 0).selectClass = some .urgent ∧ (rich.line 2).selectClass = some .poll ∧
      (rich.line 1).selectClass = none := by decide +kernel

/-- Line 3 of `rich` with an urgent request of the kind code waiting. -/
def asking (kind : Byte) : Line :=
  { rich.line 3 with engine := { (rich.line 3).engine with urgent := [request kind 20 0 13] } }

/-- The active record and the collection are both of the node that the BAR names, or of another one (a BAR of node 3). -/
theorem witness_BarAndUnbar :
    (asking 5).engine.urgent = [request 5 20 0 13] ∧ (asking 5).activeIsHead ∧
      (∃ t ∈ (asking 5).engine.transfer, t.node = 1) ∧
      (∃ k ∈ (asking 5).engine.collection, k.node = 1 ∧ k.buffer.isSome = true) ∧
      (∀ t, (asking 5).engine.transfer = some t → t.node ≠ 2) ∧
      (∀ k, (asking 5).engine.collection = some k → k.node ≠ 2) :=
  ⟨rfl, by unfold Line.activeIsHead; decide +kernel, by decide +kernel, by decide +kernel,
    fun _ h => Option.some.inj h ▸ by decide, fun _ h => Option.some.inj h ▸ by decide⟩

theorem witness_PowerOnAndOff :
    (asking 8).engine.urgent = [request 8 20 0 13] ∧ (asking 8).activeIsHead ∧ (asking 8).driver.state = .up ∧
      (cooling.line 0).driver.state = .cooldown ∧ (running.line 0).driver.state = .settling ∧
      (State.reset.line 0).driver.state = .off :=
  ⟨rfl, by unfold Line.activeIsHead; decide +kernel, by decide +kernel, by decide +kernel, by decide +kernel,
    by decide +kernel⟩

/-- An ABORT that matches nothing, a waiting record, one behind the active record, the active record without and with an
open session, and with one at an entry that is SILENT. -/
theorem witness_AbortSearchesTheRoutineQueue :
    (let a := request 4 20 0 13
      let one := request 2 13 40 0
      let other := request 2 14 40 0
      a.targetTag = 13 ∧ one.tag = a.targetTag ∧ other.tag ≠ a.targetTag ∧
        (asking 4).engine.urgent = [a] ∧
        (∃ t ∈ (asking 4).engine.transfer, t.tag = a.targetTag ∧ t.sessionOpen = true ∧
          ((asking 4).entry t.node).state = .present) ∧
        (asking 4).driver.state = .up ∧ (asking 4).engine.routine = [one] ∧
        ({ storeTransfer with sessionOpen := false } : Transfer).tag = a.targetTag ∧
        (let gone := (asking 4).setEntry 1 silent; gone.engine.transfer = (asking 4).engine.transfer ∧
          (gone.entry 1).state ≠ .present) ∧
        ({ storeTransfer with tag := 14 } : Transfer).tag ≠ a.targetTag) := by decide +kernel

/-- Ring 0 fills line 0's urgent queue, ring 7 line 3's routine queue; a configuration is loaded with rings of 16 slots. -/
theorem witness_RequestReadJoinsItsQueue :
    (List.replicate 48 (0 : Byte)).length = 48 ∧
      (fetching 0 .read running).fetcher.fetch = some { ring := 0, phase := .read } ∧
      (0 : RingId).val = (0 : LineId).val ∧
      (fetching 7 .read running).fetcher.fetch = some { ring := 7, phase := .read } ∧
      (7 : RingId).val = 4 + (3 : LineId).val ∧ (fetching 0 .read running).loaded = some cfg ∧
      (fetching 0 .read running).ringSize 0 ≤ 1024 := by decide +kernel

/-- The bytes of a supply record of `size` bytes at `addr`. -/
def supplyBytes (addr size : Nat) : List Byte := leBytes 8 addr ++ leBytes 2 size ++ [0, 0] ++ leBytes 4 5

/-- The smallest and the largest buffer, one that ends at the top of the address space, and four that fail the check. -/
theorem witness_SupplyReadJoinsTheCache :
    (supplyBytes 0x9000 256).length = 16 ∧ (SupplyRecord.ofBytes (supplyBytes 0x9000 256)).qualifies = true ∧
      (SupplyRecord.ofBytes (supplyBytes 0x9000 4096)).qualifies = true ∧
      (SupplyRecord.ofBytes (supplyBytes 0xFFFFFFFFFFFFFF00 256)).qualifies = true ∧
      (SupplyRecord.ofBytes (supplyBytes 0xFFFFFFFFFFFFFF04 256)).qualifies = false ∧
      (SupplyRecord.ofBytes (supplyBytes 0x9000 252)).qualifies = false ∧
      (SupplyRecord.ofBytes (supplyBytes 0x9000 4100)).qualifies = false ∧
      (SupplyRecord.ofBytes (supplyBytes 0x9002 256)).qualifies = false ∧
      (fetching 8 .read running).fetcher.fetch = some { ring := supplyRing, phase := .read } ∧
      (fetching 8 .read stopping).device = .stopping ∧ running.device ≠ .stopping ∧
      (fetching 8 .read running).loaded = some cfg ∧ (fetching 8 .read running).ringSize supplyRing ≤ 1024 := by
  decide +kernel

theorem witness_FetchEndsOrBreaksItsRing :
    (fetching 8 .progress running).fetcher.fetch = some { ring := 8, phase := .progress } ∧
      (fetching 8 .read running).fetcher.fetch = some { ring := 8, phase := .read } := by decide

/-- A routine STORE of three bytes that is not active, with its segment read in flight. -/
def firstRead : State :=
  withLine (fun ln => accessing (.segmentRead 0x100#64 3)
    ((up { ln with engine := { ln.engine with routine := [request 2 13 3 0] } }).setEntry 1 present))

/-- The active STORE of 40 bytes with the read of its second segment in flight. -/
def secondRead (sessionOpen : Bool) : State :=
  withLine (fun ln => accessing (.segmentRead 0x120#64 8)
    ((up { ln with engine := { ln.engine with
      routine := [request 2 13 40 0], transfer := some { storeTransfer with sessionOpen := sessionOpen } } }).setEntry 1
        present))

theorem witness_SegmentReadSendsOrEndsTheStore :
    (firstRead.line 0).engine.state = .exchanging ∧
      (firstRead.line 0).engine.access = some (.segmentRead 0x100#64 [1, 2, (3 : Byte)].length) ∧
      (firstRead.line 0).engine.routine = [request 2 13 3 0] ∧ nodeOf (request 2 13 3 0).node = some 1 ∧
      (firstRead.line 0).driver.state = .up ∧ ((firstRead.line 0).entry 1).state ≠ .barred ∧
      (firstRead.line 0).engine.transfer = none ∧
      ((secondRead true).line 0).engine.transfer = some storeTransfer ∧ storeTransfer.node = 1 ∧
      storeTransfer.next = .wdata 2 ∧ storeTransfer.sessionOpen = true ∧
      ((secondRead false).line 0).engine.transfer = some { storeTransfer with sessionOpen := false } := by
  decide +kernel

/-- Line 0 with the write of a response in flight. -/
def responding (side : QueueSide) : State :=
  withLine (fun ln => accessing (.responseWrite side 0x100#64 [1, 2])
    (up { ln with engine := { ln.engine with urgent := [request 1 7 3 0], routine := [request 1 8 3 0] } }))

theorem witness_ResponseWriteCompletesTheSend :
    ((responding .urgent).line 0).engine.state = .exchanging ∧
      ((responding .urgent).line 0).engine.access = some (.responseWrite .urgent 0x100#64 [1, 2]) ∧
      ((responding .urgent).line 0).engine.urgent = [request 1 7 3 0] ∧
      ((responding .routine).line 0).engine.access = some (.responseWrite .routine 0x100#64 [1, 2]) ∧
      ((responding .routine).line 0).engine.routine = [request 1 8 3 0] := by decide +kernel

/-- Bytes still owed, bytes of the segment and its LAST flag, at the edges of each clause of the judgement. -/
def segmentSizes : List (Nat × Nat × Bool) :=
  [(33, 32, false), (32, 32, true), (40, 32, false), (32, 32, false), (1, 32, false), (33, 32, true), (2, 1, true),
    (1, 1, true), (1, 2, true), (31, 32, true)]

/-- Whether exactly one clause of the judgement applies. -/
def judgedOnce (o n : Nat) (last : Bool) : Bool :=
  [!last && n == 32 && decide (32 < o), last && n == o, !last && n == 32 && decide (¬32 < o), last && decide (n < o),
    last && decide (o < n)].count true == 1

theorem witness_FetchWriteCountsItsBytes :
    (∀ after ∈ [FetchAfter.more, .mismatchOpen, .last, .mismatchEnded],
      let ln := (withLine (fetchLine after)).line 0
      ln.engine.state = .exchanging ∧
        ln.engine.access = some (.fetchWrite 0x120#64 (List.replicate 8 0) after) ∧
        ln.engine.routine = [request 3 13 40 0] ∧ ln.engine.transfer = some fetchTransfer) ∧
      segmentSizes.all (fun (o, n, last) => judgedOnce o n last) = true := by decide +kernel

theorem witness_CollectWriteCountsItsBytes :
    (∀ after ∈ [CollectAfter.more, .mismatch, .last],
      let ln := (withLine (collectLine after)).line 0
      ln.engine.state = .exchanging ∧
        ln.engine.access = some (.collectWrite 0x9020#64 (List.replicate 8 0) after) ∧
        ln.engine.collection = some collecting ∧ collecting.buffer.isSome = true ∧ ln.driver.state = .up ∧
        (ln.entry collecting.node).state = .present) ∧ ack.kind = .ack ∧
      segmentSizes.all (fun (o, n, last) => judgedOnce o n last) = true := by decide +kernel

/-- RUNNING with a record being written and so many unannounced before it. -/
def writing (unannounced : Nat) : State :=
  { running with writer := { Writer.initial with
      unannounced := unannounced, write := some { record := ringFaultRecord 0 0, stamp := 0, phase := true } } }

/-- Coalescing count 2: the first record waits, the second is announced. -/
theorem witness_WrittenRecordIsCounted :
    (writing 0).device = .running ∧ (writing 0).writer.write.isSome = true ∧
      ¬((writing 0).coalescing ≤ (writing 0).writer.unannounced + 1 ∨ (writing 0).holdoffUnits = 0) ∧
      (got (exec (.completionWriteDone .ok) (writing 0))).device ≠ .halted ∧
      (writing 1).coalescing ≤ (writing 1).writer.unannounced + 1 := by decide +kernel

theorem witness_FailedCompletionWriteFaults :
    (writing 0).device = .running ∧ (writing 0).writer.write.isSome = true := by decide

end Sys2Proof.Tests
end

section
/-! PROOFS. The line's bytes read back: a reply as a node sends it is judged as that reply (R5, R7, R9), and the table of
accepted replies (R8). -/

namespace Sys2Proof.Machine

/-! ## The bytes of a reply read back -/

/-- The address of a node fits the low half of a header byte (11 section 11.6). -/
theorem Node.address_lt (node : Node) : Node.address node < 16 := by
  have := node.isLt
  unfold Node.address
  omega

theorem ReplyKind.code_lt (k : ReplyKind) : k.code < 16 := by cases k <;> decide

@[simp] theorem replyKind_code (k : ReplyKind) : replyKind k.code = some k := by cases k <;> rfl

/-- The header of a reply holds the kind code in bits 4..7 and the address in bits 0..3 (11 section 11.6). -/
theorem toNat_replyHeader (node : Node) (k : ReplyKind) :
    (BitVec.ofNat 8 (Node.address node + 16 * k.code)).toNat = Node.address node + 16 * k.code := by
  have haddr := Node.address_lt node
  have hcode := k.code_lt
  rw [BitVec.toNat_ofNat, Nat.mod_eq_of_lt (by omega)]

theorem replyHeader_kind (node : Node) (k : ReplyKind) :
    replyKind ((BitVec.ofNat 8 (Node.address node + 16 * k.code)).toNat / 16) = some k := by
  have haddr := Node.address_lt node
  have hcode : (Node.address node + 16 * k.code) / 16 = k.code := by omega
  rw [toNat_replyHeader, hcode, replyKind_code]

theorem replyHeader_address (node : Node) (k : ReplyKind) :
    (BitVec.ofNat 8 (Node.address node + 16 * k.code)).toNat % 16 = Node.address node := by
  have haddr := Node.address_lt node
  rw [toNat_replyHeader]
  omega

/-- The four indications stand in bits 0 to 3 of the status byte (R7, 11 section 11.6). -/
theorem Reply.status_bits (r : Reply) :
    r.status.getLsbD 0 = r.toggle ∧ r.status.getLsbD 1 = r.last ∧
      r.status.getLsbD 2 = r.offer ∧ r.status.getLsbD 3 = r.alert := by
  have bits : ∀ t l o a : Bool,
      let b := BitVec.ofNat 8 (t.toNat + 2 * l.toNat + 4 * o.toNat + 8 * a.toNat)
      b.getLsbD 0 = t ∧ b.getLsbD 1 = l ∧ b.getLsbD 2 = o ∧ b.getLsbD 3 = a := by decide
  exact bits r.toggle r.last r.offer r.alert

/-- The bytes a node sends for a reply are parsed as that reply, whatever node sends them (R7). -/
theorem parseReply_bytes (node : Node) (r : Reply) : parseReply (Reply.bytes node r) = some r := by
  obtain ⟨htoggle, hlast, hoffer, halert⟩ := r.status_bits
  simp only [parseReply, Reply.bytes, List.cons_append, List.getD_cons_zero, List.getD_cons_succ,
    List.drop_succ_cons, List.drop_zero, List.dropLast_concat, replyHeader_kind, htoggle, hlast, hoffer, halert]

/-- The last byte of a reply is the CRC-8 of those before it (R5, R7). -/
theorem Reply.crc8_bytes (node : Node) (r : Reply) :
    crc8 (Reply.bytes node r).dropLast = (Reply.bytes node r).getLastD 0 := by
  simp only [Reply.bytes, List.dropLast_concat, List.getLastD_concat]

theorem Reply.received_values (node : Node) (r : Reply) :
    (Reply.received node r).map (·.value) = Reply.bytes node r := by
  simp [Reply.received, Function.comp_def]

/-- A reply received free of errors has every stop bit and at least header, status and CRC-8 (R3). -/
theorem Reply.received_not_cutShort (node : Node) (r : Reply) : cutShort (Reply.received node r) = false := by
  simp [cutShort, Reply.received, Reply.bytes]

/-- The bytes of a reply from the node of the frame pass every check of R9 that looks at bytes: what is left of the judgement
is the table of R8 and the toggle. -/
theorem judge_received (f : Frame) (r : Reply) :
    judge f (Reply.received f.node r) = if replyAccepted f r && toggleAgrees f r then some r else none := by
  have haddr : ((Reply.bytes f.node r).getD 0 0).toNat % 16 = Node.address f.node :=
    replyHeader_address f.node r.kind
  simp only [judge, Reply.received_values, Reply.received_not_cutShort, Reply.crc8_bytes, haddr, parseReply_bytes,
    ne_eq, not_true_eq_false, Bool.false_eq_true, if_false]

theorem judge_received_of_not_accepted {f : Frame} {r : Reply} (h : replyAccepted f r = false) :
    judge f (Reply.received f.node r) = none := by
  simp [judge_received, h]

/-! ## The table of accepted replies (R8), a row for each reply kind and frame kind -/

theorem segmentLegal_iff (r : Reply) : segmentLegal r = true ↔
    (r.last = false ∧ r.payload.length = 32) ∨ (r.last = true ∧ 1 ≤ r.payload.length ∧ r.payload.length ≤ 32) := by
  cases hlast : r.last <;> simp [segmentLegal, hlast]

section Ack
variable {f : Frame} {r : Reply}

theorem replyAccepted_ack_poll (hr : r.kind = .ack) (hf : f.kind = .poll) :
    replyAccepted f r = true ↔ r.payload.length = 1 ∧ (r.offer = true ↔ 0 < leNat r.payload) := by
  have hoffer : r.offer = (leNat r.payload != 0) ↔ (r.offer = true ↔ 0 < leNat r.payload) := by
    rw [Bool.eq_iff_iff, bne_iff_ne, Nat.pos_iff_ne_zero]
  simp only [replyAccepted, hr, hf, Bool.and_eq_true, beq_iff_eq, hoffer]

theorem replyAccepted_ack_identify (hr : r.kind = .ack) (hf : f.kind = .identify) :
    replyAccepted f r = true ↔ r.payload.length = 6 := by
  simp only [replyAccepted, hr, hf, beq_iff_eq]

theorem replyAccepted_ack_command (hr : r.kind = .ack) (hf : f.kind = .command) :
    replyAccepted f r = true ↔ r.payload.length ≤ 32 := by
  simp only [replyAccepted, hr, hf, decide_eq_true_eq]

theorem replyAccepted_ack_wdata (hr : r.kind = .ack) (hf : f.kind = .wdata) :
    replyAccepted f r = true ↔ r.payload = [] := by
  simp only [replyAccepted, hr, hf, beq_iff_eq, List.length_eq_zero_iff]

theorem replyAccepted_ack_ropen (hr : r.kind = .ack) (hf : f.kind = .ropen) :
    replyAccepted f r = true ↔ r.payload.length = 2 ∧ leNat r.payload ≤ leNat f.payload := by
  simp only [replyAccepted, hr, hf, Bool.and_eq_true, beq_iff_eq, decide_eq_true_eq]

/-- RDATA and COLLECT accept one data segment. -/
theorem replyAccepted_ack_segment (hr : r.kind = .ack) (hf : f.kind = .rdata ∨ f.kind = .collect) :
    replyAccepted f r = segmentLegal r := by
  rcases hf with hf | hf <;> simp only [replyAccepted, hr, hf]

theorem replyAccepted_ack_close (hr : r.kind = .ack) (hf : f.kind = .close) :
    replyAccepted f r = true ↔ r.payload = [] := by
  simp only [replyAccepted, hr, hf, beq_iff_eq, List.length_eq_zero_iff]

end Ack

theorem replyAccepted_nakBusy {f : Frame} {r : Reply} (hr : r.kind = .nakBusy) :
    replyAccepted f r = true ↔ r.payload = [] ∧ f.kind ≠ .identify ∧ f.kind ≠ .close := by
  cases hf : f.kind <;> simp [replyAccepted, hr, hf]

theorem replyAccepted_nakRefused {f : Frame} {r : Reply} (hr : r.kind = .nakRefused) :
    replyAccepted f r = true ↔
      r.payload = [] ∧ f.kind ≠ .poll ∧ f.kind ≠ .identify ∧ f.kind ≠ .close := by
  cases hf : f.kind <;> simp [replyAccepted, hr, hf]

/-- Settles O39: the rows of the table, and the judgement of the bytes of a reply outside it. -/
theorem acceptedReplyTable : Obligations.AcceptedReplyTable := by
  intro f r
  refine ⟨fun hr => ⟨replyAccepted_ack_poll hr, replyAccepted_ack_identify hr, replyAccepted_ack_command hr,
    replyAccepted_ack_wdata hr, replyAccepted_ack_ropen hr, fun hf => ?_, replyAccepted_ack_close hr⟩,
    replyAccepted_nakBusy, replyAccepted_nakRefused, judge_received_of_not_accepted⟩
  rw [replyAccepted_ack_segment hr hf, segmentLegal_iff]

end Sys2Proof.Machine
end

section
/-! PROOFS. The checks at selection (R89, R90): which records complete BAD_NODE, and how a record that fails a check
completes (R87, R88, R116). -/

namespace Sys2Proof.Machine

/-! ## The node address check -/

theorem nodeOf_eq_none_iff (b : Byte) : nodeOf b = none ↔ b = 0 ∨ 13 ≤ b.toNat := by
  have hzero : b = 0 ↔ b.toNat = 0 := by simp [← BitVec.toNat_inj]
  rw [hzero, nodeOf, dite_eq_right_iff]
  simp only [reduceCtorEq, imp_false]
  omega

/-- Only the kinds that name a node can fail the address check (R90). -/
theorem Request.badNode_iff {r : Request} {k : RequestKind} (hk : requestKind r.kind = some k) :
    r.badNode = true ↔ k ≠ .abort ∧ k ≠ .power ∧ nodeOf r.node = none := by
  unfold Request.badNode
  rw [hk]
  cases k <;> simp

theorem entryCheck_ne_badNode (e : EntryState) : entryCheck e ≠ some .badNode := by
  cases e <;> simp [entryCheck]

theorem Line.checkRecord_of_badRequest {ln : Line} {side : QueueSide} {r : Request} (h : r.badRequest side = true) :
    ln.checkRecord side r = some .badRequest := by
  unfold Line.checkRecord
  exact if_pos h

/-- BAD_NODE comes from the second check alone: the checks after it answer LINE_DOWN, NO_NODE or NODE_BARRED
(R36, R89, R91). -/
theorem Line.checkRecord_eq_badNode_iff (ln : Line) (side : QueueSide) (r : Request) :
    ln.checkRecord side r = some .badNode ↔ r.badRequest side = false ∧ r.badNode = true := by
  unfold Line.checkRecord
  split
  next hreq => simp [hreq]
  next hreq =>
    split
    next hnode => simp [hreq, hnode]
    next hnode =>
      simp only [hnode, and_false, iff_false, Bool.false_eq_true]
      split
      next => simp
      next k hk =>
        split
        next => simp
        next => split <;> simp [entryCheck_ne_badNode]

/-! ## A record that fails a check -/

theorem Line.completeUrgent_cons {ln : Line} {r : Request} {rest : List Request} (h : ln.engine.urgent = r :: rest)
    (l : LineId) (code : Code) (count : Nat) (detail : BitVec 32) :
    (ln.completeUrgent l code count detail).engine.urgent = rest ∧
      (ln.completeUrgent l code count detail).engine.owed =
        ln.engine.owed ++ [⟨resultRecord l r code count detail, .none⟩] := by
  obtain ⟨hnil, -⟩ | ⟨r', rest', hcons, heq⟩ := ln.completeUrgent_cases l code count detail
  · simp [h] at hnil
  · obtain ⟨rfl, rfl⟩ := List.cons.inj (h.symm.trans hcons)
    exact ⟨by rw [heq], by rw [heq]⟩

theorem Line.completeRoutine_cons {ln : Line} {r : Request} {rest : List Request} (h : ln.engine.routine = r :: rest)
    (l : LineId) (code : Code) (count : Nat) (detail : BitVec 32) :
    (ln.completeRoutine l code count detail).engine.routine = rest ∧
      (ln.completeRoutine l code count detail).engine.owed =
        ln.engine.owed ++ [⟨resultRecord l r code count detail, .none⟩] := by
  obtain ⟨hnil, -⟩ | ⟨r', rest', hcons, heq⟩ := ln.completeRoutine_cases l code count detail
  · simp [h] at hnil
  · obtain ⟨rfl, rfl⟩ := List.cons.inj (h.symm.trans hcons)
    exact ⟨by rw [heq], by rw [heq]⟩

/-- An urgent head that is not back from backoff and fails a check completes with that status (R88, R89). -/
theorem Line.urgentUnit_of_check_fails {ln : Line} {x : LineCtx} {r : Request} {code : Code}
    (hbusy : ln.engine.urgentBusy = 0) (hcheck : ln.checkRecord .urgent r = some code) :
    ln.urgentUnit x r = ln.completeUrgent x.line code 0 r.resultDetail := by
  unfold Line.urgentUnit
  rw [if_neg (by omega), hcheck]

/-- A routine head that is not active and fails a check completes with that status (R87, R89). -/
theorem Line.routineUnit_of_check_fails {ln : Line} {x : LineCtx} {r : Request} {code : Code}
    (hidle : ln.engine.transfer = none) (hcheck : ln.checkRecord .routine r = some code) :
    ln.routineUnit x r = ln.completeRoutine x.line code 0 r.resultDetail := by
  unfold Line.routineUnit
  rw [hidle]
  dsimp only
  rw [hcheck]

/-- Settles O45: BAD_NODE is the second check's answer alone, and a failed check completes the head of its queue. -/
theorem badNodeCheck : Obligations.BadNodeCheck := by
  intro ln x side r rest
  refine ⟨Line.checkRecord_of_badRequest, fun k hreq hk habort hpower => ?_, fun hk hnode => ?_,
    fun code hside hqueue hbusy hcheck => ?_, fun code hside hqueue hidle hcheck => ?_⟩
  · rw [Line.checkRecord_eq_badNode_iff, Request.badNode_iff hk, nodeOf_eq_none_iff]
    simp only [hreq, habort, hpower, ne_eq, not_false_eq_true, true_and]
  · obtain ⟨-, hbad⟩ := (Line.checkRecord_eq_badNode_iff ln side r).mp hnode
    obtain hk | hk := hk
    · exact ((Request.badNode_iff hk).mp hbad).1 rfl
    · exact ((Request.badNode_iff hk).mp hbad).2.1 rfl
  · subst hside
    rw [Line.urgentUnit_of_check_fails hbusy hcheck]
    exact Line.completeUrgent_cons hqueue x.line code 0 r.resultDetail
  · subst hside
    rw [Line.routineUnit_of_check_fails hidle hcheck]
    exact Line.completeRoutine_cons hqueue x.line code 0 r.resultDetail

end Sys2Proof.Machine
end

section
/-! PROOFS. The CONTROL register (R158): what each command does to a device in each state. -/

namespace Sys2Proof.Machine

/-! ## The commands of CONTROL are their effects -/

@[simp] theorem exec_start (s : State) : exec .start s = .next s.startCommand := rfl
@[simp] theorem exec_stop (s : State) : exec .stop s = .next s.stopCommand := rfl
@[simp] theorem exec_reset (s : State) : exec .reset s = .next s.resetPart := rfl
@[simp] theorem exec_controlNoCommand (s : State) : exec .controlNoCommand s = .next s.refuseCommand := rfl

/-! ## A refused command -/

/-- A refusal is one update of the error code: an error that is already recorded is written back as it was (R158). -/
theorem State.refuseCommand_eq (s : State) :
    s.refuseCommand = { s with error := if s.error = .none then .cmdRefused else s.error } := by
  unfold State.refuseCommand
  split <;> rfl

/-! ## START -/

theorem State.startCommand_of_halted {s : State} (h : s.device = .halted) :
    s.startCommand = { s with
      device := .loading, error := .none, errorField := 0,
      loader := some { base := s.configBaseHi ++ s.configBaseLo, copy := [], failed := false } } :=
  if_pos h

theorem State.startCommand_of_not_halted {s : State} (h : s.device ≠ .halted) :
    s.startCommand = s.refuseCommand :=
  if_neg h

/-! ## STOP, a row for each device state -/

theorem State.stopCommand_of_halted {s : State} (h : s.device = .halted) : s.stopCommand = s.refuseCommand := by
  simp only [State.stopCommand, h]

theorem State.stopCommand_of_loading {s : State} (h : s.device = .loading) : s.stopCommand = s.abandonLoad := by
  simp only [State.stopCommand, h]

theorem State.stopCommand_of_running {s : State} (h : s.device = .running) :
    s.stopCommand = s.settleFrom ({ s with device := .stopping }).returnCache := by
  simp only [State.stopCommand, h]

theorem State.stopCommand_of_stopping {s : State} (h : s.device = .stopping) : s.stopCommand = s := by
  simp only [State.stopCommand, h]

theorem State.stopCommand_of_faulted {s : State} (h : s.device = .faulted) : s.stopCommand = s.refuseCommand := by
  simp only [State.stopCommand, h]

@[simp] theorem State.returnCache_device (s : State) : s.returnCache.device = s.device := rfl

@[simp] theorem State.abandonLoad_device (s : State) : s.abandonLoad.device = .halted := rfl
@[simp] theorem State.abandonLoad_loader (s : State) : s.abandonLoad.loader = none := rfl

@[simp] theorem State.resetPart_device (s : State) : s.resetPart.device = .halted := rfl

/-- Settles O18, a command and a device state at a time. -/
theorem controlCommandTable : Obligations.ControlCommandTable := by
  intro s
  dsimp only
  rw [← State.refuseCommand_eq, exec_start, exec_stop, exec_reset, exec_controlNoCommand]
  refine ⟨fun halted => ?_, fun notHalted => ?_, fun refusing => ?_, fun loading => ?_, fun running => ?_,
    fun stopping => ?_, ⟨s.resetPart, rfl, s.resetPart_device⟩, rfl, rfl⟩
  · rw [State.startCommand_of_halted halted]
  · rw [State.startCommand_of_not_halted notHalted]
  · obtain halted | faulted := refusing
    · rw [State.stopCommand_of_halted halted]
    · rw [State.stopCommand_of_faulted faulted]
  · rw [State.stopCommand_of_loading loading]
    exact ⟨s.abandonLoad, rfl, s.abandonLoad_device, s.abandonLoad_loader⟩
  · rw [State.stopCommand_of_running running]
    exact ⟨({ s with device := .stopping }).returnCache, State.returnCache_device _, rfl⟩
  · rw [State.stopCommand_of_stopping stopping]

end Sys2Proof.Machine
end

section
/-! PROOFS. What one move of an engine can do, without a hypothesis on its line: work of the engine, a granted collection,
or a step of the STOP cancellation (R76, R95, R165). -/

namespace Sys2Proof.Machine

/-- The steps that only the STOP cancellation takes (R165), each with nothing owed. -/
inductive Line.StopStep (x : LineCtx) (env : EngineEnv) (ln : Line) : Line → Prop where
  | cancel : env.device = .stopping → env.fetching = false → ln.engine.cont = .boundary →
      ln.engine.lineUpOwed = false → ln.engine.tripPending = false → StopStep x env ln (ln.cancel x.line)
  | alreadyOff : ln.engine.cont = .stopLineOff → ln.engine.lineUpOwed = false → ln.driver.state = .off →
      StopStep x env ln (ln.setCont .stopDone)
  | lineOff : ln.engine.cont = .stopLineOff → ln.engine.lineUpOwed = false →
      StopStep x env ln (ln.cancelLineOff x.line)
  | done : ln.engine.cont = .stopDone →
      StopStep x env ln { ln with engine := { ln.engine with state := .inactive, cont := .boundary } }

/-- A step of the STOP cancellation is a unit of work too. -/
theorem Line.StopStep.unit {x : LineCtx} {env : EngineEnv} {ln ln' : Line} (howed : ln.engine.owed = [])
    (h : Line.StopStep x env ln ln') : Line.Unit x .stopping ln ln' := by
  cases h with
  | cancel hdevice => exact (Line.cancel_quiet x .stopping ln rfl howed).unit
  | alreadyOff hcont hup hoff =>
    have hnone : ∀ o ∈ ln.engine.owed, o.effect ≠ .driverFailed := by simp [howed]
    have hstops : ln.engine.cont.stops = true := by rw [hcont]; rfl
    exact (Line.Quiet.one (.stopCont ln .stopDone rfl rfl (fun _ => hoff) hnone (.inr hstops))).unit
  | lineOff hcont hup => exact (Line.cancelLineOff_quiet x ln howed hcont).unit
  | done hcont => exact ⟨ln, .refl ln, .inactive hcont⟩

/-- What an engine with nothing owed does: a unit that is no part of the cancellation, a granted collection, or a step of the
cancellation. -/
theorem Line.proceed_work {ln ln' : Line} {x : LineCtx} {env : EngineEnv} {cache cache' : List SupplyRecord}
    (howed : ln.engine.owed = []) (h : ln.proceed x env cache = some (ln', cache')) :
    (cache' = cache ∧ Line.Unit x .running ln ln') ∨ Line.Granted ln ln' cache cache' ∨
      (cache' = cache ∧ Line.StopStep x env ln ln') := by
  have hlineUp : ln.engine.lineUpOwed = true →
      (if ln.engine.slot.isSome then none else some (ln.postLineUp x.line, cache)) = some (ln', cache') →
      cache' = cache ∧ Line.Unit x .running ln ln' := by
    intro hup hpost
    split at hpost
    · cases hpost
    · next hslot =>
      cases hpost
      exact ⟨rfl, (Line.Quiet.one (.lineUp ln (by simpa using hslot) howed hup)).unit⟩
  unfold Line.proceed at h
  split at h
  · cases h; exact .inl ⟨rfl, ln, .refl ln, .access _⟩
  · cases h; exact .inl ⟨rfl, Line.runClosing_unit _ _ ln _ _⟩
  · cases h
    exact .inl ⟨rfl, ((Line.Quiet.one (.setCont ln .boundary rfl)).trans (Line.advance_quiet _ _ _)).unit⟩
  · cases h; exact .inl ⟨rfl, (Line.tripBudget_quiet _ _ ln).unit⟩
  · cases h; exact .inl ⟨rfl, (Line.cycleOn_quiet _ _ ln).unit⟩
  · next hcont =>
    split at h
    · next hup => exact .inl (hlineUp hup h)
    · next hup =>
      have hup : ln.engine.lineUpOwed = false := by simpa using hup
      split at h
      · next hoff => cases h; exact .inr (.inr ⟨rfl, .alreadyOff hcont hup hoff⟩)
      · split at h
        · cases h
        · cases h; exact .inr (.inr ⟨rfl, .lineOff hcont hup⟩)
  · next hcont => cases h; exact .inr (.inr ⟨rfl, .done hcont⟩)
  · next hcont =>
    split at h
    · next hup => exact .inl (hlineUp hup h)
    · next hup =>
      have hup : ln.engine.lineUpOwed = false := by simpa using hup
      split at h
      · split at h
        · cases h
        · cases h; exact .inl ⟨rfl, (Line.processTrip_quiet _ _ ln).unit⟩
      · next htrip =>
        have htrip : ln.engine.tripPending = false := by simpa using htrip
        split at h
        · obtain hunit | hgrant := Line.select_cases .running (by simp [hcont]) h
          · exact .inl hunit
          · exact .inr (.inl hgrant)
        · next hdevice =>
          split at h
          · cases h
          · next hfetch =>
            cases h
            exact .inr (.inr ⟨rfl, .cancel hdevice (by simpa using hfetch) hcont hup htrip⟩)
        · cases h

/-- What one move of an engine can do (R75, R76), for any line: it was IDLE or BLOCKED, and it placed a record or did other
work, was granted a buffer, or took a step of the STOP cancellation with nothing owed. -/
theorem Line.engineStep_work {ln ln' : Line} {x : LineCtx} {env : EngineEnv} {cache cache' : List SupplyRecord}
    (h : ln.engineStep x env cache = some (ln', cache')) :
    (ln.engine.state = .idle ∨ ln.engine.state = .blocked) ∧
      ((cache' = cache ∧ Line.Unit x .running ln ln') ∨ Line.Granted ln ln' cache cache' ∨
        (cache' = cache ∧ ln.engine.owed = [] ∧ Line.StopStep x env ln ln')) := by
  unfold Line.engineStep at h
  split at h
  · next hstate =>
    refine ⟨hstate, ?_⟩
    split at h
    · next o rest howed =>
      split at h
      · cases h
      · next hslot =>
        cases h
        exact .inl ⟨rfl, (Line.Quiet.one (.place ln o rest (by simpa using hslot) howed)).unit⟩
    · next howed =>
      obtain hunit | hgrant | ⟨hcache, hstop⟩ := Line.proceed_work howed h
      · exact .inl hunit
      · exact .inr (.inl hgrant)
      · exact .inr (.inr ⟨hcache, howed, hstop⟩)
  · cases h

/-- One move of an engine is a unit of work or a granted collection. -/
theorem Line.engineStep_unit {ln ln' : Line} {x : LineCtx} {env : EngineEnv} {cache cache' : List SupplyRecord}
    (h : ln.engineStep x env cache = some (ln', cache')) :
    (ln.engine.state = .idle ∨ ln.engine.state = .blocked) ∧
      ((cache' = cache ∧ ∃ d, Line.Unit x d ln ln') ∨ Line.Granted ln ln' cache cache') := by
  obtain ⟨hstate, ⟨hcache, hunit⟩ | hgrant | ⟨hcache, howed, hstop⟩⟩ := Line.engineStep_work h
  · exact ⟨hstate, .inl ⟨hcache, _, hunit⟩⟩
  · exact ⟨hstate, .inr hgrant⟩
  · exact ⟨hstate, .inl ⟨hcache, _, hstop.unit howed⟩⟩

/-- What every small change and every ending keep, a unit of work keeps. -/
theorem Line.Unit.keeps {P : Line → Prop} {x : LineCtx} {d : DeviceState} {a b : Line}
    (hchange : ∀ m n, P m → Line.Change x d m n → P n) (hending : ∀ m n, P m → Line.Ending m n → P n)
    (h : Line.Unit x d a b) (ha : P a) : P b := by
  obtain ⟨m, hquiet, hend⟩ := h
  exact hending m b (hquiet.keeps hchange ha) hend

end Sys2Proof.Machine
end

section
/-! PROOFS. What the operations that complete work leave alone, and the frame of small changes and endings: what a unit of
work can never touch. -/

namespace Sys2Proof.Machine

/-! ## What the shared operations leave -/

section
variable (ln : Line) (l : LineId) (code : Code) (count : Nat) (detail : BitVec 32) (cs : List Completion)

@[simp] theorem Line.completeUrgent_leaves :
    let m := ln.completeUrgent l code count detail
    (∀ n, m.entry n = ln.entry n) ∧ m.driver = ln.driver ∧ m.xcvr = ln.xcvr ∧ m.table = ln.table ∧ m.rounds = ln.rounds ∧
      m.engine.state = ln.engine.state ∧ m.engine.routine = ln.engine.routine ∧
      m.engine.urgentReserved = ln.engine.urgentReserved ∧ m.engine.routineReserved = ln.engine.routineReserved ∧
      m.engine.transfer = ln.engine.transfer ∧ m.engine.collection = ln.engine.collection ∧
      m.engine.slot = ln.engine.slot ∧ m.engine.cont = ln.engine.cont ∧ m.engine.purpose = ln.engine.purpose ∧
      m.engine.access = ln.engine.access ∧ m.engine.tripPending = ln.engine.tripPending ∧
      m.engine.lineUpOwed = ln.engine.lineUpOwed := by
  obtain ⟨-, h⟩ | ⟨r, rest, -, h⟩ := ln.completeUrgent_cases l code count detail <;> simp [h, Line.entry]

@[simp] theorem Line.completeRoutine_leaves :
    let m := ln.completeRoutine l code count detail
    (∀ n, m.entry n = ln.entry n) ∧ m.driver = ln.driver ∧ m.xcvr = ln.xcvr ∧ m.table = ln.table ∧ m.rounds = ln.rounds ∧
      m.engine.state = ln.engine.state ∧ m.engine.urgent = ln.engine.urgent ∧
      m.engine.urgentReserved = ln.engine.urgentReserved ∧ m.engine.routineReserved = ln.engine.routineReserved ∧
      m.engine.urgentBusy = ln.engine.urgentBusy ∧ m.engine.urgentDeadline = ln.engine.urgentDeadline ∧
      m.engine.transfer = none ∧ m.engine.collection = ln.engine.collection ∧ m.engine.slot = ln.engine.slot ∧
      m.engine.cont = ln.engine.cont ∧ m.engine.purpose = ln.engine.purpose ∧ m.engine.access = ln.engine.access ∧
      m.engine.tripPending = ln.engine.tripPending ∧ m.engine.lineUpOwed = ln.engine.lineUpOwed ∧
      m.engine.cutOff = ln.engine.cutOff := by
  obtain ⟨-, h⟩ | ⟨r, rest, -, h⟩ := ln.completeRoutine_cases l code count detail <;> simp [h, Line.entry]

@[simp] theorem Line.completeActive_leaves :
    let m := ln.completeActive l code detail
    (∀ n, m.entry n = ln.entry n) ∧ m.driver = ln.driver ∧ m.xcvr = ln.xcvr ∧ m.table = ln.table ∧ m.rounds = ln.rounds ∧
      m.engine.state = ln.engine.state ∧ m.engine.urgent = ln.engine.urgent ∧
      m.engine.urgentReserved = ln.engine.urgentReserved ∧ m.engine.routineReserved = ln.engine.routineReserved ∧
      m.engine.urgentBusy = ln.engine.urgentBusy ∧ m.engine.urgentDeadline = ln.engine.urgentDeadline ∧
      m.engine.transfer = none ∧ m.engine.collection = ln.engine.collection ∧ m.engine.slot = ln.engine.slot ∧
      m.engine.cont = ln.engine.cont ∧ m.engine.purpose = ln.engine.purpose ∧ m.engine.access = ln.engine.access ∧
      m.engine.tripPending = ln.engine.tripPending ∧ m.engine.lineUpOwed = ln.engine.lineUpOwed ∧
      m.engine.cutOff = ln.engine.cutOff := by
  obtain ⟨hnone, h⟩ | ⟨t, -, h⟩ := ln.completeActive_eq l code detail <;> simp [h, Line.entry]
  exact hnone

@[simp] theorem Line.returnCollection_leaves :
    let m := ln.returnCollection l code
    (∀ n, m.entry n = ln.entry n) ∧ m.driver = ln.driver ∧ m.xcvr = ln.xcvr ∧ m.table = ln.table ∧ m.rounds = ln.rounds ∧
      m.engine.state = ln.engine.state ∧ m.engine.urgent = ln.engine.urgent ∧ m.engine.routine = ln.engine.routine ∧
      m.engine.urgentReserved = ln.engine.urgentReserved ∧ m.engine.routineReserved = ln.engine.routineReserved ∧
      m.engine.urgentBusy = ln.engine.urgentBusy ∧ m.engine.urgentDeadline = ln.engine.urgentDeadline ∧
      m.engine.transfer = ln.engine.transfer ∧ m.engine.collection = none ∧ m.engine.slot = ln.engine.slot ∧
      m.engine.cont = ln.engine.cont ∧ m.engine.purpose = ln.engine.purpose ∧ m.engine.access = ln.engine.access ∧
      m.engine.tripPending = ln.engine.tripPending ∧ m.engine.lineUpOwed = ln.engine.lineUpOwed ∧
      m.engine.cutOff = ln.engine.cutOff := by
  obtain ⟨hnone, h⟩ | ⟨k, -, -, h⟩ | ⟨k, b, -, -, h⟩ := ln.returnCollection_cases l code <;> simp [h, Line.entry]
  exact hnone

@[simp] theorem Line.turnOff_leaves :
    let m := ln.turnOff
    (∀ n, m.entry n = ln.entry n) ∧ m.driver = ln.driver.turnOff ∧ m.xcvr = ln.xcvr ∧ m.table = ln.table ∧ m.engine.state = ln.engine.state ∧
      m.engine.urgent = ln.engine.urgent ∧ m.engine.routine = ln.engine.routine ∧
      m.engine.urgentReserved = ln.engine.urgentReserved ∧ m.engine.routineReserved = ln.engine.routineReserved ∧
      m.engine.urgentBusy = ln.engine.urgentBusy ∧ m.engine.slot = ln.engine.slot ∧ m.engine.owed = ln.engine.owed ∧
      m.engine.cont = ln.engine.cont ∧ m.engine.purpose = ln.engine.purpose ∧ m.engine.access = ln.engine.access ∧
      m.engine.tripPending = ln.engine.tripPending ∧ m.engine.lineUpOwed = ln.engine.lineUpOwed ∧
      m.engine.cutOff = ln.engine.cutOff := by
  obtain ⟨-, h⟩ | ⟨-, h⟩ := ln.turnOff_cases <;> simp [h, Line.entry]

/-- Placing a record fills the slot from the front of the owed list, and makes the change tied to it (R39, R93). -/
@[simp] theorem Line.place_leaves (o : Owed) (rest : List Owed) :
    let m := ln.place o rest
    m.xcvr = ln.xcvr ∧ m.rounds = ln.rounds ∧ m.driver.restartsLeft = ln.driver.restartsLeft ∧
      m.driver.roundsSinceUp = ln.driver.roundsSinceUp ∧ m.engine.state = ln.engine.state ∧
      m.engine.urgent = ln.engine.urgent ∧ m.engine.routine = ln.engine.routine ∧
      m.engine.urgentReserved = ln.engine.urgentReserved ∧ m.engine.routineReserved = ln.engine.routineReserved ∧
      m.engine.transfer = ln.engine.transfer ∧ m.engine.collection = ln.engine.collection ∧
      m.engine.slot = some o.record ∧ m.engine.owed = rest ∧ m.engine.cont = ln.engine.cont ∧
      m.engine.purpose = ln.engine.purpose ∧ m.engine.access = ln.engine.access ∧
      m.engine.lineUpOwed = ln.engine.lineUpOwed := by
  obtain ⟨-, h⟩ | ⟨-, h⟩ | ⟨-, h⟩ := ln.place_cases o rest <;> simp [h]

end

/-- The driver after a placing: FAILED where LINE_FAILED was placed, and as it was otherwise (R30). -/
theorem Line.place_driver (ln : Line) (o : Owed) (rest : List Owed) :
    (ln.place o rest).driver = (if o.effect = .driverFailed then { ln.driver with state := .failed } else ln.driver) := by
  obtain ⟨he, h⟩ | ⟨he, h⟩ | ⟨he, h⟩ := ln.place_cases o rest <;> simp [h, he]

/-- An entry after a placing: cleared where LINE_TRIPPED or LINE_OFF was placed and it is not BARRED (R39). -/
theorem Line.place_entry (ln : Line) (o : Owed) (rest : List Owed) (n : Node) :
    (ln.place o rest).entry n =
      if o.effect = .clearEntries ∧ (ln.entry n).state ≠ .barred then (ln.entry n).clear else ln.entry n := by
  obtain ⟨he, h⟩ | ⟨he, h⟩ | ⟨he, h⟩ := ln.place_cases o rest
  · simp [h, he, Line.entry]
  · have hentry : (ln.place o rest).entry n = ln.clearEntries.entry n := by rw [h]; rfl
    rw [hentry, Line.entry_clearEntries]
    by_cases hb : (ln.entry n).state = .barred <;> simp [he, hb]
  · simp [h, he, Line.entry]

/-! ## What small changes and endings leave -/

/-- The end of a round changes the driver's counts alone (R32). -/
@[simp] theorem Driver.roundEnded_state (v : Driver) (cfg : LineConfig) : (v.roundEnded cfg).state = v.state := by
  unfold Driver.roundEnded
  split
  · split <;> rfl
  · rfl

section
variable {x : LineCtx} {d : DeviceState} {a b : Line}

/-- A small change touches neither the wire, nor the engine's state and access, nor the places reserved, and brings no line
UP. -/
theorem Line.Change.leaves (h : Line.Change x d a b) :
    b.xcvr = a.xcvr ∧ b.engine.state = a.engine.state ∧ b.engine.purpose = a.engine.purpose ∧
      b.engine.access = a.engine.access ∧ b.engine.urgentReserved = a.engine.urgentReserved ∧
      b.engine.routineReserved = a.engine.routineReserved ∧ (b.driver.state = .up → a.driver.state = .up) := by
  cases h with
  | place o rest hslot howed =>
    simp only [Line.place_leaves, true_and]
    rw [Line.place_driver]
    split
    · simp
    · exact id
  | driver v hup => simp [hup]
  | cancelQueues => simp [Line.produceAll_eq]
  | _ => simp

/-- A run of small changes leaves what each of them leaves. -/
theorem Line.Quiet.leaves (h : Line.Quiet x d a b) :
    b.xcvr = a.xcvr ∧ b.engine.state = a.engine.state ∧ b.engine.purpose = a.engine.purpose ∧
      b.engine.access = a.engine.access ∧ b.engine.urgentReserved = a.engine.urgentReserved ∧
      b.engine.routineReserved = a.engine.routineReserved ∧ (b.driver.state = .up → a.driver.state = .up) := by
  induction h with
  | refl => simp
  | tail _ hc ih =>
    obtain ⟨h1, h2, h3, h4, h5, h6, h7⟩ := hc.leaves
    obtain ⟨i1, i2, i3, i4, i5, i6, i7⟩ := ih
    exact ⟨h1.trans i1, h2.trans i2, h3.trans i3, h4.trans i4, h5.trans i5, h6.trans i6, i7 ∘ h7⟩

end

end Sys2Proof.Machine
end

section
/-! PROOFS. What small changes, endings and granted collections keep of a line: its toggles, its entries' form, its queues'
lengths, its records on their way and the counts of what it holds. -/

namespace Sys2Proof.Machine

/-! ## Entries -/

/-- Both toggles of the entry are those of the other. -/
def Entry.SameToggles (e e' : Entry) : Prop := e'.sendToggle = e.sendToggle ∧ e'.recvToggle = e.recvToggle

@[simp] theorem Entry.clear_toggles (e : Entry) :
    e.clear.sendToggle = e.sendToggle ∧ e.clear.recvToggle = e.recvToggle := ⟨rfl, rfl⟩

@[simp] theorem Entry.clear_state (e : Entry) : e.clear.state = .vacant := rfl

@[simp] theorem Entry.bar_toggles (e : Entry) :
    e.bar.sendToggle = e.sendToggle ∧ e.bar.recvToggle = e.recvToggle := ⟨rfl, rfl⟩

@[simp] theorem Entry.unbar_toggles (e : Entry) :
    e.unbar.sendToggle = e.sendToggle ∧ e.unbar.recvToggle = e.recvToggle := by
  unfold Entry.unbar
  split <;> exact ⟨rfl, rfl⟩

/-- A cleared entry is well formed under every configuration (R37). -/
theorem Entry.clear_wf (e : Entry) (cfg : LineConfig) : e.clear.wf cfg := by
  simp [Entry.wf, Entry.clear, Entry.initial]

theorem Entry.bar_wf (e : Entry) (cfg : LineConfig) : e.bar.wf cfg := by
  simp [Entry.wf, Entry.bar, Entry.clear, Entry.initial]

theorem Entry.unbar_wf {e : Entry} {cfg : LineConfig} (h : e.wf cfg) : e.unbar.wf cfg := by
  unfold Entry.unbar
  split
  · exact e.clear_wf cfg
  · exact h

/-- The toggles of every entry of `b` are those of `a`. -/
def Line.SameToggles (a b : Line) : Prop := ∀ n, (a.entry n).SameToggles (b.entry n)

theorem Line.SameToggles.refl (a : Line) : a.SameToggles a := fun _ => ⟨rfl, rfl⟩

theorem Line.SameToggles.trans {a b c : Line} (h : a.SameToggles b) (h' : b.SameToggles c) : a.SameToggles c :=
  fun n => ⟨(h' n).1.trans (h n).1, (h' n).2.trans (h n).2⟩

theorem Line.SameToggles.of_table {a b : Line} (h : b.table = a.table) : a.SameToggles b := fun n => by
  rw [Line.entry_congr h n]; exact ⟨rfl, rfl⟩

theorem Line.SameToggles.setEntry {a : Line} {n : Node} {e : Entry} (h : (a.entry n).SameToggles e) :
    a.SameToggles (a.setEntry n e) := fun m => by
  rw [Line.entry_setEntry]
  split
  · next hm => subst hm; exact h
  · exact ⟨rfl, rfl⟩

theorem Line.SameToggles.place (a : Line) (o : Owed) (rest : List Owed) : a.SameToggles (a.place o rest) := fun n => by
  rw [Line.place_entry]
  split <;> exact ⟨rfl, rfl⟩

/-- The entries are well formed, and the driver's counts keep within their ranges (R23, R32, R37). -/
def Line.formed (ln : Line) (cfg : LineConfig) : Prop :=
  (∀ n, (ln.entry n).wf cfg) ∧ ln.driver.restartsLeft ≤ cfg.restartBudget ∧
    ln.driver.roundsSinceUp ≤ Config.reloadRounds

theorem Line.formed.of_eq {a b : Line} {cfg : LineConfig} (ha : a.formed cfg) (htable : b.table = a.table)
    (hrestarts : b.driver.restartsLeft = a.driver.restartsLeft)
    (hrounds : b.driver.roundsSinceUp = a.driver.roundsSinceUp) : b.formed cfg := by
  obtain ⟨hwf, h1, h2⟩ := ha
  exact ⟨fun n => by rw [Line.entry_congr htable n]; exact hwf n, hrestarts ▸ h1, hrounds ▸ h2⟩

theorem Line.formed.setEntry {a : Line} {cfg : LineConfig} {n : Node} {e : Entry} (ha : a.formed cfg) (he : e.wf cfg) :
    (a.setEntry n e).formed cfg := by
  obtain ⟨hwf, h1, h2⟩ := ha
  refine ⟨fun m => ?_, h1, h2⟩
  rw [Line.entry_setEntry]
  split
  · exact he
  · exact hwf m

/-- The counts of the driver at a round's end keep their ranges (R32). -/
theorem Driver.roundEnded_bounds {v : Driver} {cfg : LineConfig} (h1 : v.restartsLeft ≤ cfg.restartBudget)
    (h2 : v.roundsSinceUp ≤ Config.reloadRounds) :
    (v.roundEnded cfg).restartsLeft ≤ cfg.restartBudget ∧ (v.roundEnded cfg).roundsSinceUp ≤ Config.reloadRounds := by
  unfold Driver.roundEnded
  split
  · split
    · exact ⟨Nat.le_refl _, by simp; omega⟩
    · exact ⟨h1, by simp; omega⟩
  · exact ⟨h1, h2⟩

/-! ## Records and buffers on their way -/

/-- Records were only added behind those of `a` on their way out (R93). -/
def Line.Grows (a b : Line) : Prop := ∃ more, b.outbox = a.outbox ++ more

theorem Line.Grows.refl (a : Line) : a.Grows a := ⟨[], by simp⟩

theorem Line.Grows.trans {a b c : Line} (h : a.Grows b) (h' : b.Grows c) : a.Grows c := by
  obtain ⟨m, hm⟩ := h
  obtain ⟨n, hn⟩ := h'
  exact ⟨m ++ n, by rw [hn, hm, List.append_assoc]⟩

theorem Line.Grows.of_owed {a b : Line} {more : List Owed} (hslot : b.engine.slot = a.engine.slot)
    (howed : b.engine.owed = a.engine.owed ++ more) : a.Grows b :=
  ⟨more.map (·.record), by simp [Line.outbox, hslot, howed]⟩

theorem Line.Grows.of_eq {a b : Line} (hslot : b.engine.slot = a.engine.slot) (howed : b.engine.owed = a.engine.owed) :
    a.Grows b :=
  .of_owed (more := []) hslot (by simp [howed])

/-- The request records of a line that are taken and not yet handed to the writer in a RESULT (R144). -/
def Line.requestsHeld (ln : Line) : Nat :=
  ln.engine.urgent.length + ln.engine.routine.length + ofType .result ln.outbox

/-- The supply buffers of a line that are taken and not yet handed to the writer in an ARRIVAL (R129). -/
def Line.buffersHeld (ln : Line) : Nat := ln.heldBuffers + ofType .arrival ln.outbox

@[simp] theorem ofType_append (k : CompletionType) (a b : List Completion) : ofType k (a ++ b) = ofType k a + ofType k b := by
  simp [ofType]

@[simp] theorem ofType_nil (k : CompletionType) : ofType k [] = 0 := rfl

@[simp] theorem ofType_cons (k : CompletionType) (c : Completion) (cs : List Completion) :
    ofType k (c :: cs) = (if c.type = k then 1 else 0) + ofType k cs := by
  simp [ofType, List.countP_cons, Nat.add_comm]

@[simp] theorem resultRecord_type (l : LineId) (r : Request) (code : Code) (count : Nat) (detail : BitVec 32) :
    (resultRecord l r code count detail).type = .result := rfl

@[simp] theorem arrivalRecord_type (l : LineId) (node : Byte) (code : Code) (id : BitVec 32) (count : Nat) :
    (arrivalRecord l node code id count).type = .arrival := rfl

/-- The RESULTs of a list of requests are as many as the requests. -/
theorem ofType_results (l : LineId) (code : Code) (f : Request → BitVec 32) (rs : List Request) :
    ofType .result (rs.map (fun r => resultRecord l r code 0 (f r))) = rs.length ∧
      ofType .arrival (rs.map (fun r => resultRecord l r code 0 (f r))) = 0 := by
  induction rs with
  | nil => simp
  | cons r rs ih => simp [ih, Nat.add_comm]

/-- What a line's work conserves: every request record and every buffer that it holds is still held or is on its way out. -/
def Line.Conserves (a b : Line) : Prop := b.requestsHeld = a.requestsHeld ∧ b.buffersHeld = a.buffersHeld

theorem Line.Conserves.refl (a : Line) : a.Conserves a := ⟨rfl, rfl⟩

theorem Line.Conserves.trans {a b c : Line} (h : a.Conserves b) (h' : b.Conserves c) : a.Conserves c :=
  ⟨h'.1.trans h.1, h'.2.trans h.2⟩

/-- Changes outside the queues, the collection, the slot and the owed records conserve. -/
theorem Line.Conserves.of_eq {a b : Line} (hu : b.engine.urgent = a.engine.urgent)
    (hr : b.engine.routine = a.engine.routine) (hc : b.engine.collection = a.engine.collection)
    (hslot : b.engine.slot = a.engine.slot) (howed : b.engine.owed = a.engine.owed) : a.Conserves b := by
  simp [Line.Conserves, Line.requestsHeld, Line.buffersHeld, Line.heldBuffers, Line.outbox, hu, hr, hc, hslot, howed]

end Sys2Proof.Machine
end

section
/-! PROOFS. Small changes, endings and granted collections, one invariant of lines after another: toggles kept, entries
well formed, queues no longer than before, records only added, requests and buffers conserved. -/

namespace Sys2Proof.Machine

section
variable {x : LineCtx} {d : DeviceState} {a b : Line}

/-! ## Toggles and entries -/

theorem Line.Change.sameToggles (h : Line.Change x d a b) : a.SameToggles b := by
  cases h with
  | place o rest hslot howed => exact .place a o rest
  | bar n => exact .setEntry (by simp [Entry.SameToggles])
  | unbar n => exact .setEntry (by simp [Entry.SameToggles])
  | cancelQueues => exact .of_table (by simp [Line.produceAll_eq])
  | _ => exact .of_table (by simp)

theorem Line.Change.formed (h : Line.Change x d a b) (ha : a.formed x.cfg) : b.formed x.cfg := by
  cases h with
  | place o rest hslot howed =>
    obtain ⟨hwf, h1, h2⟩ := ha
    refine ⟨fun n => ?_, by simpa using h1, by simpa using h2⟩
    rw [Line.place_entry]
    split
    · exact Entry.clear_wf _ _
    · exact hwf n
  | bar n => exact ha.setEntry (Entry.bar_wf _ _)
  | unbar n => exact ha.setEntry (Entry.unbar_wf (ha.1 n))
  | driver v hup hrestarts hrounds =>
    obtain ⟨hwf, h1, h2⟩ := ha
    refine ⟨hwf, ?_, ?_⟩
    · dsimp only; omega
    · dsimp only; omega
  | roundEnded =>
    obtain ⟨hwf, h1, h2⟩ := ha
    obtain ⟨h1', h2'⟩ := Driver.roundEnded_bounds h1 h2
    exact ⟨hwf, h1', h2'⟩
  | cancelQueues => exact ha.of_eq (by simp [Line.produceAll_eq]) (by simp [Line.produceAll_eq]) (by simp [Line.produceAll_eq])
  | _ => exact ha.of_eq (by simp) (by simp) (by simp)

/-! ## Records on their way out -/

/-- Placing the front of the owed list leaves the records on their way as they are. -/
theorem Line.place_outbox {o : Owed} {rest : List Owed} (hslot : a.engine.slot = none) (howed : a.engine.owed = o :: rest) :
    (a.place o rest).outbox = a.outbox := by
  simp [Line.outbox, hslot, howed]

theorem Line.completeUrgent_grows (ln : Line) (l : LineId) (code : Code) (count : Nat) (detail : BitVec 32) :
    ln.Grows (ln.completeUrgent l code count detail) := by
  obtain ⟨-, h⟩ | ⟨r, rest, -, h⟩ := ln.completeUrgent_cases l code count detail <;> rw [h]
  · exact .refl ln
  · exact .of_owed rfl rfl

theorem Line.completeRoutine_grows (ln : Line) (l : LineId) (code : Code) (count : Nat) (detail : BitVec 32) :
    ln.Grows (ln.completeRoutine l code count detail) := by
  obtain ⟨-, h⟩ | ⟨r, rest, -, h⟩ := ln.completeRoutine_cases l code count detail <;> rw [h]
  · exact .of_eq rfl rfl
  · exact .of_owed rfl rfl

theorem Line.returnCollection_grows (ln : Line) (l : LineId) (code : Code) : ln.Grows (ln.returnCollection l code) := by
  obtain ⟨-, h⟩ | ⟨k, -, -, h⟩ | ⟨k, b, -, -, h⟩ := ln.returnCollection_cases l code <;> rw [h]
  · exact .refl ln
  · exact .of_eq rfl rfl
  · exact .of_owed rfl rfl

theorem Line.Change.grows (h : Line.Change x d a b) : a.Grows b := by
  cases h with
  | place o rest hslot howed => exact ⟨[], by simp [Line.place_outbox hslot howed]⟩
  | lineUp hslot howed hup => exact ⟨[lineEvent x.line .lineUp a.driver.restartsLeft], by simp [Line.outbox, hslot, howed]⟩
  | event c e hc he => exact .of_owed (more := [⟨c, e⟩]) (by simp) (by simp)
  | completeUrgent code count detail => exact a.completeUrgent_grows _ _ _ _
  | completeRoutine code count detail => exact a.completeRoutine_grows _ _ _ _
  | removeWaiting p r detail hr => exact .of_owed (more := [⟨resultRecord x.line r .aborted 0 detail, .none⟩]) (by simp) (by simp)
  | cancelQueues => rw [Line.produceAll_eq]; exact .of_owed rfl rfl
  | returnCollection code => exact a.returnCollection_grows _ _
  | _ => exact .of_eq (by simp) (by simp)

/-! ## Conservation -/

theorem Line.completeUrgent_conserves (ln : Line) (l : LineId) (code : Code) (count : Nat) (detail : BitVec 32) :
    ln.Conserves (ln.completeUrgent l code count detail) := by
  obtain ⟨-, h⟩ | ⟨r, rest, hr, h⟩ := ln.completeUrgent_cases l code count detail <;> rw [h]
  · exact .refl ln
  · simp [Line.Conserves, Line.requestsHeld, Line.buffersHeld, Line.heldBuffers, Line.outbox, hr]
    omega

theorem Line.completeRoutine_conserves (ln : Line) (l : LineId) (code : Code) (count : Nat) (detail : BitVec 32) :
    ln.Conserves (ln.completeRoutine l code count detail) := by
  obtain ⟨-, h⟩ | ⟨r, rest, hr, h⟩ := ln.completeRoutine_cases l code count detail <;> rw [h]
  · exact .of_eq rfl rfl rfl rfl rfl
  · simp [Line.Conserves, Line.requestsHeld, Line.buffersHeld, Line.heldBuffers, Line.outbox, hr]
    omega

theorem Line.returnCollection_conserves (ln : Line) (l : LineId) (code : Code) : ln.Conserves (ln.returnCollection l code) := by
  obtain ⟨-, h⟩ | ⟨k, hk, hb, h⟩ | ⟨k, b, hk, hb, h⟩ := ln.returnCollection_cases l code <;> rw [h]
  · exact .refl ln
  · simp [Line.Conserves, Line.requestsHeld, Line.buffersHeld, Line.heldBuffers, Line.outbox, hk, hb]
  · simp [Line.Conserves, Line.requestsHeld, Line.buffersHeld, Line.heldBuffers, Line.outbox, hk, hb]
    omega

theorem Line.produceAll_conserves_events (ln : Line) (cs : List Completion) (h : ∀ c ∈ cs, c.type = .event) :
    ln.Conserves (ln.produceAll cs) := by
  have hnone : ∀ k, k ≠ .event → ofType k cs = 0 := fun k hk => by
    simp only [ofType, List.countP_eq_zero]
    intro c hc
    simp [h c hc, hk.symm]
  simp [Line.Conserves, Line.requestsHeld, Line.buffersHeld, Line.heldBuffers, Line.outbox, Line.produceAll_eq,
    Function.comp_def, hnone]

/-- A record leaves the waiting ones, and only its place (R118). -/
theorem Line.waiting_erase_length {ln : Line} {p : Request → Bool} {r : Request} (h : ln.waiting.find? p = some r) :
    (if ln.engine.transfer.isSome then ln.engine.routine.take 1 ++ ln.waiting.eraseP p else ln.waiting.eraseP p).length + 1 =
      ln.engine.routine.length := by
  have hmem := List.mem_of_find?_eq_some h
  have hlength : (ln.waiting.eraseP p).length + 1 = ln.waiting.length := by
    have hpos := List.length_pos_of_mem hmem
    rw [List.length_eraseP_of_mem hmem (List.find?_some h)]
    omega
  unfold Line.waiting at hlength hmem ⊢
  split at hlength
  · next htransfer =>
    rw [if_pos htransfer] at hmem
    have hpos : 0 < ln.engine.routine.tail.length := List.length_pos_of_mem hmem
    simp only [htransfer, if_true, List.length_append, List.length_take]
    simp only [List.length_tail] at hlength hpos
    omega
  · next htransfer => simpa [htransfer] using hlength

theorem Line.Change.conserves (h : Line.Change x d a b) : a.Conserves b := by
  cases h with
  | place o rest hslot howed =>
    simp [Line.Conserves, Line.requestsHeld, Line.buffersHeld, Line.heldBuffers, Line.place_outbox hslot howed]
  | lineUp hslot howed hup =>
    simp [Line.Conserves, Line.requestsHeld, Line.buffersHeld, Line.heldBuffers, Line.outbox, hslot, howed, lineEvent]
  | event c e hc he =>
    simp [Line.Conserves, Line.requestsHeld, Line.buffersHeld, Line.heldBuffers, Line.outbox, hc]
  | completeUrgent code count detail => exact a.completeUrgent_conserves _ _ _ _
  | completeRoutine code count detail => exact a.completeRoutine_conserves _ _ _ _
  | removeWaiting p r detail hr =>
    have hlength := Line.waiting_erase_length hr
    simp only [Line.Conserves, Line.requestsHeld, Line.buffersHeld, Line.heldBuffers, Line.outbox, Line.produce_engine_owed,
      Line.produce_engine_slot, Line.produce_engine_urgent, Line.produce_engine_routine, Line.produce_engine_collection,
      List.map_append, List.map_cons, List.map_nil, ofType_append, ofType_cons, ofType_nil, resultRecord_type]
    simp only [if_true, reduceCtorEq, if_false]
    omega
  | cancelQueues hnone =>
    simp [Line.Conserves, Line.requestsHeld, Line.buffersHeld, Line.heldBuffers, Line.outbox, Line.produceAll_eq,
      Function.comp_def, ofType_results]
    omega
  | returnCollection code => exact a.returnCollection_conserves _ _
  | dropCollection hheld =>
    refine ⟨rfl, ?_⟩
    unfold Line.buffersHeld
    rw [hheld]
    simp [Line.heldBuffers, Line.outbox]
  | updateCollection k k' hk hb =>
    simp [Line.Conserves, Line.requestsHeld, Line.buffersHeld, Line.heldBuffers, Line.outbox, hk, hb]
  | leaveUp =>
    refine ⟨rfl, ?_⟩
    cases hk : a.engine.collection with
    | none => simp [Line.buffersHeld, Line.heldBuffers, Line.outbox, hk]
    | some k =>
      cases hb : k.buffer <;> simp [Line.buffersHeld, Line.heldBuffers, Line.outbox, hk, hb, Option.filter]
  | _ => exact .of_eq (by simp) (by simp) (by simp) (by simp) (by simp)

/-- No queue grows by a small change (R86). -/
theorem Line.Change.queues (h : Line.Change x d a b) :
    b.engine.urgent.length ≤ a.engine.urgent.length ∧ b.engine.routine.length ≤ a.engine.routine.length := by
  cases h with
  | completeUrgent code count detail =>
    obtain ⟨-, h⟩ | ⟨r, rest, hr, h⟩ := a.completeUrgent_cases x.line code count detail <;> simp [*]
  | completeRoutine code count detail =>
    obtain ⟨-, h⟩ | ⟨r, rest, hr, h⟩ := a.completeRoutine_cases x.line code count detail <;> simp [*]
  | removeWaiting p r detail hr =>
    have hlength := Line.waiting_erase_length hr
    refine ⟨Nat.le_refl _, ?_⟩
    rw [Line.produce_engine_routine]
    dsimp only
    omega
  | cancelQueues => simp [Line.produceAll_eq]
  | _ => simp

end

/-! ## Endings -/

/-- An exchange that is cut off leaves everything but the wire and the engine's exchange. -/
@[simp] theorem Line.exchangeTripped_leaves (ln : Line) (p : Purpose) :
    let m := ln.exchangeTripped p
    (∀ n, m.entry n = ln.entry n) ∧ m.driver = ln.driver ∧ m.xcvr = Transceiver.initial ∧ m.table = ln.table ∧
      m.rounds = ln.rounds ∧ m.engine.state = .idle ∧ m.engine.urgent = ln.engine.urgent ∧
      m.engine.routine = ln.engine.routine ∧ m.engine.urgentReserved = ln.engine.urgentReserved ∧
      m.engine.routineReserved = ln.engine.routineReserved ∧ m.engine.transfer = ln.engine.transfer ∧
      m.engine.collection = ln.engine.collection ∧ m.engine.slot = ln.engine.slot ∧ m.engine.owed = ln.engine.owed ∧
      m.engine.cont = .boundary ∧ m.engine.purpose = none ∧ m.engine.access = none ∧
      m.engine.tripPending = ln.engine.tripPending ∧ m.engine.lineUpOwed = ln.engine.lineUpOwed := by
  simp [Line.exchangeTripped_eq, Line.entry]

/-- Handing an exchange over changes the wire and what the engine is doing. -/
@[simp] theorem Line.handOver_leaves (ln : Line) (p : Purpose) (f : Frame) :
    let m := ln.handOver p f
    (∀ n, m.entry n = ln.entry n) ∧ m.driver = ln.driver ∧ m.table = ln.table ∧ m.rounds = ln.rounds ∧
      m.engine.urgent = ln.engine.urgent ∧ m.engine.routine = ln.engine.routine ∧
      m.engine.urgentReserved = ln.engine.urgentReserved ∧ m.engine.routineReserved = ln.engine.routineReserved ∧
      m.engine.transfer = ln.engine.transfer ∧ m.engine.collection = ln.engine.collection ∧
      m.engine.slot = ln.engine.slot ∧ m.engine.owed = ln.engine.owed ∧ m.engine.cont = .boundary ∧
      m.engine.tripPending = ln.engine.tripPending ∧ m.engine.lineUpOwed = ln.engine.lineUpOwed := by
  obtain ⟨-, h⟩ | ⟨-, -, h⟩ | ⟨-, -, h⟩ := ln.handOver_cases p f <;> simp [h, Line.entry]

/-- An ending changes the wire and what the engine is doing, and nothing else. -/
theorem Line.Ending.leaves {a b : Line} (h : Line.Ending a b) :
    b.driver = a.driver ∧ b.table = a.table ∧ b.rounds = a.rounds ∧ b.engine.urgent = a.engine.urgent ∧
      b.engine.routine = a.engine.routine ∧ b.engine.urgentReserved = a.engine.urgentReserved ∧
      b.engine.routineReserved = a.engine.routineReserved ∧ b.engine.transfer = a.engine.transfer ∧
      b.engine.collection = a.engine.collection ∧ b.engine.slot = a.engine.slot ∧ b.engine.owed = a.engine.owed ∧
      b.engine.tripPending = a.engine.tripPending ∧ b.engine.lineUpOwed = a.engine.lineUpOwed := by
  cases h with
  | handOver p f hf => simp
  | _ => simp

/-! ## Units of work -/

section
variable {x : LineCtx} {d : DeviceState} {a b : Line}

theorem Line.Unit.sameToggles (h : Line.Unit x d a b) : a.SameToggles b :=
  h.keeps (P := fun m => a.SameToggles m) (fun _ _ hm hc => hm.trans hc.sameToggles)
    (fun _ _ hm he => hm.trans (.of_table he.leaves.2.1)) (.refl a)

theorem Line.Unit.formed (h : Line.Unit x d a b) (ha : a.formed x.cfg) : b.formed x.cfg :=
  h.keeps (P := fun m => m.formed x.cfg) (fun _ _ hm hc => hc.formed hm)
    (fun _ _ hm he => by
      obtain ⟨hdriver, htable, -⟩ := he.leaves
      exact hm.of_eq htable (by rw [hdriver]) (by rw [hdriver])) ha

theorem Line.Unit.grows (h : Line.Unit x d a b) : a.Grows b :=
  h.keeps (P := fun m => a.Grows m) (fun _ _ hm hc => hm.trans hc.grows)
    (fun _ _ hm he => by
      obtain ⟨-, -, -, -, -, -, -, -, -, hslot, howed, -⟩ := he.leaves
      exact hm.trans (.of_eq hslot howed)) (.refl a)

theorem Line.Unit.conserves (h : Line.Unit x d a b) : a.Conserves b :=
  h.keeps (P := fun m => a.Conserves m) (fun _ _ hm hc => hm.trans hc.conserves)
    (fun _ _ hm he => by
      obtain ⟨-, -, -, hu, hr, -, -, -, hk, hslot, howed, -⟩ := he.leaves
      exact hm.trans (.of_eq hu hr hk hslot howed)) (.refl a)

/-- No queue grows and no place is reserved or given up in a unit of work. -/
theorem Line.Unit.places (h : Line.Unit x d a b) :
    (∀ side, b.engine.places side ≤ a.engine.places side) ∧ ∀ side, b.engine.reserved side = a.engine.reserved side := by
  have hkept : b.engine.urgent.length ≤ a.engine.urgent.length ∧ b.engine.routine.length ≤ a.engine.routine.length ∧
      b.engine.urgentReserved = a.engine.urgentReserved ∧ b.engine.routineReserved = a.engine.routineReserved := by
    refine h.keeps (P := fun m => m.engine.urgent.length ≤ a.engine.urgent.length ∧
      m.engine.routine.length ≤ a.engine.routine.length ∧ m.engine.urgentReserved = a.engine.urgentReserved ∧
      m.engine.routineReserved = a.engine.routineReserved) (fun m n hm hc => ?_) (fun m n hm he => ?_) (by simp)
    · obtain ⟨-, -, -, -, hur, hrr, -⟩ := hc.leaves
      obtain ⟨hu, hr⟩ := hc.queues
      exact ⟨hu.trans hm.1, hr.trans hm.2.1, hur.trans hm.2.2.1, hrr.trans hm.2.2.2⟩
    · obtain ⟨-, -, -, hu, hr, hur, hrr, -⟩ := he.leaves
      rw [hu, hr, hur, hrr]
      exact hm
  obtain ⟨hu, hr, hur, hrr⟩ := hkept
  constructor <;> intro side <;> cases side <;> simp [Engine.places, Engine.reserved] <;> omega

/-- A unit of work on an idle wire leaves the wire safe: a frame begins only on a line that is UP, to an entry that is not
BARRED, with its toggle (R12, R14, R51). -/
theorem Line.Unit.wireSafe (h : Line.Unit x d a b) (ha : a.xcvr.state = .idle) (cfg : LineConfig) : b.wireSafe cfg := by
  obtain ⟨m, hquiet, hend⟩ := h
  have hidle : m.xcvr.state = .idle := by rw [hquiet.leaves.1, ha]
  cases hend with
  | none => exact fun h => absurd hidle h
  | access k => exact fun h => absurd hidle h
  | inactive => exact fun h => absurd hidle h
  | handOver p f hf =>
    obtain ⟨-, h⟩ | ⟨hbarred, hup, h⟩ | ⟨-, -, h⟩ := m.handOver_cases p f
    · rw [h]; exact fun h => absurd hidle h
    · rw [h]
      have hagrees : f.agrees (m.entry f.node) := by
        unfold Frame.agrees
        rw [hf]
        rfl
      exact fun _ => ⟨hup, rfl, rfl, rfl, by simp, f, rfl, hbarred, hagrees⟩
    · rw [h]; exact fun h => absurd (by simp [Transceiver.initial]) h

/-- A unit of work brings no line UP, and leaves a wire idle unless the line is UP. -/
theorem Line.Unit.notUp (h : Line.Unit x d a b) (hup : a.driver.state ≠ .up) (hidle : a.xcvr.state = .idle) :
    b.driver.state ≠ .up ∧ b.xcvr.state = .idle := by
  have hb : b.driver.state ≠ .up := by
    obtain ⟨m, hquiet, hend⟩ := h
    rw [hend.leaves.1]
    exact fun hm => hup (hquiet.leaves.2.2.2.2.2.2 hm)
  refine ⟨hb, ?_⟩
  by_contra hbusy
  exact hb (h.wireSafe hidle x.cfg hbusy).1

end

/-! ## Granted collections -/

section
variable {a b : Line} {cache cache' : List SupplyRecord}

/-- Granting a buffer changes the collection, the wire and what the engine is doing. -/
theorem Line.Granted.leaves (h : Line.Granted a b cache cache') :
    b.driver = a.driver ∧ b.table = a.table ∧ b.rounds = a.rounds ∧ b.engine.urgent = a.engine.urgent ∧
      b.engine.routine = a.engine.routine ∧ b.engine.urgentReserved = a.engine.urgentReserved ∧
      b.engine.routineReserved = a.engine.routineReserved ∧ b.engine.slot = a.engine.slot ∧
      b.engine.owed = a.engine.owed ∧ b.engine.cont = .boundary ∧ b.engine.tripPending = a.engine.tripPending ∧
      b.engine.lineUpOwed = a.engine.lineUpOwed := by
  obtain ⟨k, r, -, -, -, rfl⟩ := h
  unfold Line.sendCollect
  simp

theorem Line.Granted.sameToggles (h : Line.Granted a b cache cache') : a.SameToggles b := .of_table h.leaves.2.1

theorem Line.Granted.formed {cfg : LineConfig} (h : Line.Granted a b cache cache') (ha : a.formed cfg) : b.formed cfg := by
  obtain ⟨hdriver, htable, -⟩ := h.leaves
  exact ha.of_eq htable (by rw [hdriver]) (by rw [hdriver])

theorem Line.Granted.grows (h : Line.Granted a b cache cache') : a.Grows b := by
  obtain ⟨-, -, -, -, -, -, -, hslot, howed, -⟩ := h.leaves
  exact .of_eq hslot howed

/-- The buffer granted goes from the cache to the line (R129). -/
theorem Line.Granted.conserves (h : Line.Granted a b cache cache') :
    b.requestsHeld = a.requestsHeld ∧ b.buffersHeld + cache'.length = a.buffersHeld + cache.length := by
  obtain ⟨k, r, hk, hb, rfl, rfl⟩ := h
  unfold Line.sendCollect
  simp [Line.requestsHeld, Line.buffersHeld, Line.heldBuffers, Line.outbox, hk, hb]
  omega

theorem Line.Granted.wireSafe (h : Line.Granted a b cache cache') (ha : a.xcvr.state = .idle) (cfg : LineConfig) :
    b.wireSafe cfg := by
  obtain ⟨k, r, hk, hb, rfl, rfl⟩ := h
  have hunit : Line.Unit { line := 0, cfg := cfg } .running
      { a with engine := { a.engine with collection := some { k with buffer := some r, firstSent := true } } }
      (a.sendCollect { k with buffer := some r }) :=
    Line.handOver_unit _ _ _ .collect .collect k.node (!k.firstSent) []
  exact hunit.wireSafe ha cfg

end

end Sys2Proof.Machine
end

section
/-! PROOFS. What follows within a step: a relation for each kind of move, and the frame of what follows (R76, R95, R143, R148,
R150, R166). -/

namespace Sys2Proof.Machine

/-! ## Places reserved, and slots emptied -/

/-- Reserving a place changes one line's engine or the cache's count (R143). -/
theorem State.reserve_cases (s : State) (r : RingId) :
    (∃ l side, ringTarget r = some (l, side) ∧
        s.reserve r = s.setLine l { s.line l with
          engine := (s.line l).engine.setReserved side ((s.line l).engine.reserved side + 1) }) ∨
      (ringTarget r = none ∧ s.reserve r = { s with cacheReserved := s.cacheReserved + 1 }) := by
  unfold State.reserve
  split
  · next l side h => exact .inl ⟨l, side, h, rfl⟩
  · next h => exact .inr ⟨h, rfl⟩

/-- Reserved places set for a queue: the other queue's are kept, and so is everything else of the engine. -/
theorem Engine.setReserved_eq (g : Engine) (side : QueueSide) (n : Nat) :
    g.setReserved side n =
      { g with urgentReserved := (if side = .urgent then n else g.urgentReserved),
               routineReserved := (if side = .routine then n else g.routineReserved) } := by
  cases side <;> rfl

/-- Emptying a source's slot: a line's post slot, or the service slot (R150). -/
theorem State.emptySource_cases (s : State) (k : Fin 5) {c : Completion} (hc : s.source k = some c) :
    (∃ l : LineId, (s.line l).engine.slot = some c ∧
        s.emptySource k = s.setLine l { s.line l with engine := { (s.line l).engine with slot := none } }) ∨
      (s.serviceSlot = some c ∧ s.emptySource k = { s with serviceSlot := none }) := by
  unfold State.source at hc
  unfold State.emptySource
  split at hc
  · next hk => exact .inl ⟨⟨k.val, hk⟩, hc, dif_pos hk⟩
  · next hk => exact .inr ⟨hc, dif_neg hk⟩

/-- The writer's take: one source's slot is emptied, and its record is the one being written (R150, R151). -/
theorem State.take_source {s t : State} {fresh : Bool} (h : s.take fresh = some t) :
    s.mayTake = true ∧ ∃ k c n u, t = { u with
        writer := { s.writer with pointer := k, write := some { record := c, stamp := s.stamp, phase := s.writer.phase } },
        freeCount := n } ∧
      ((∃ l : LineId, (s.line l).engine.slot = some c ∧
          u = s.setLine l { s.line l with engine := { (s.line l).engine with slot := none } }) ∨
        (s.serviceSlot = some c ∧ u = { s with serviceSlot := none })) := by
  obtain ⟨hmay, k, c, n, hc, rfl⟩ := State.take_cases h
  refine ⟨hmay, k, c, n, s.emptySource k, ?_, State.emptySource_cases s k hc⟩
  obtain ⟨l, -, h⟩ | ⟨-, h⟩ := State.emptySource_cases s k hc
  · simp only [State.takeFrom, h, State.setLine_writer]
  · simp only [State.takeFrom, h]

theorem State.mayTake_iff (s : State) : s.mayTake = true ↔
    (s.device = .running ∨ s.device = .stopping) ∧ s.writer.write = none ∧
      s.outstandingCompletions < s.complSize := by
  simp [State.mayTake, and_assoc]

theorem State.stopped_iff (s : State) : s.stopped = true ↔
    s.device = .stopping ∧ (∀ l, (s.line l).engine.state = .inactive ∧ (s.line l).engine.slot = none) ∧
      s.fetcher.fetch = none ∧ s.cache = [] ∧ s.cacheReserved = 0 ∧ s.serviceOwed = [] ∧ s.serviceSlot = none ∧
      s.writer.write = none := by
  have hlines : (s.lines.toList.all (fun ln => ln.engine.state == .inactive && ln.engine.slot.isNone)) = true ↔
      ∀ l, (s.line l).engine.state = .inactive ∧ (s.line l).engine.slot = none := by
    simp only [List.all_eq_true, Vector.mem_toList_iff, Bool.and_eq_true, beq_iff_eq, Option.isNone_iff_eq_none]
    constructor
    · intro h l
      exact h _ (by simp [State.line, Vector.get_eq_getElem])
    · intro h ln hln
      obtain ⟨i, hi, rfl⟩ := Vector.mem_iff_getElem.mp hln
      simpa [State.line, Vector.get_eq_getElem] using h ⟨i, hi⟩
  simp only [State.stopped, Bool.and_eq_true, hlines]
  simp [and_assoc]

/-- Entering HALTED: BARRED entries cleared, what is unannounced announced, and the causes of it set (R166). -/
theorem State.enterHalted_eq (s : State) :
    s.enterHalted = { s with
      device := .halted, lines := s.lines.map Line.clearBarred,
      intStatus := (if 0 < s.writer.unannounced then s.intStatus ||| causeCompletion else s.intStatus) ||| causeStateChange,
      writer := { s.writer with
        unannounced := if 0 < s.writer.unannounced then 0 else s.writer.unannounced,
        holdoff := if 0 < s.writer.unannounced then none else s.writer.holdoff } } := by
  unfold State.enterHalted
  by_cases h : 0 < s.writer.unannounced
  · simp only [h, if_true]; rfl
  · simp only [h, if_false]; rfl

@[simp] theorem Line.entry_clearBarred (ln : Line) (n : Node) : ln.clearBarred.entry n = (ln.entry n).unbar := by
  simp [Line.entry, Line.clearBarred, Vector.get_eq_getElem]

/-! ## The frame of what follows -/

/-- What follows within a step may make `t` of `s`: everything no rule of it names is kept. -/
structure State.Follows (s t : State) : Prop where
  kept : t = { s with
    device := t.device, intStatus := t.intStatus, fetcher := t.fetcher, cache := t.cache,
    cacheReserved := t.cacheReserved, serviceSlot := t.serviceSlot, serviceOwed := t.serviceOwed,
    writer := { s.writer with
      unannounced := t.writer.unannounced, holdoff := t.writer.holdoff, pointer := t.writer.pointer,
      write := t.writer.write },
    lines := t.lines, freeCount := t.freeCount }
  device : t.device = s.device ∨ s.device = .stopping ∧ t.device = .halted
  causes : t.intStatus &&& s.intStatus = s.intStatus
  cache : ∀ b ∈ t.cache, b ∈ s.cache
  toggles : ∀ l, (s.line l).SameToggles (t.line l)
  exchanging : ∀ l, (s.line l).engine.state = .exchanging →
    ∃ slot u r, (slot = (s.line l).engine.slot ∨ slot = none) ∧
      t.line l = { s.line l with engine := { (s.line l).engine with
        slot := slot, urgentReserved := u, routineReserved := r } }

/-- A cause that stays set stays set under more causes. -/
theorem causes_trans {a b c : BitVec 4} (hab : b &&& a = a) (hbc : c &&& b = b) : c &&& a = a := by
  rw [← hab, ← BitVec.and_assoc, hbc]

theorem causes_or (a b : BitVec 4) : (a ||| b) &&& a = a := by
  ext i
  simp only [BitVec.getElem_and, BitVec.getElem_or]
  cases a[i] <;> simp

theorem State.Follows.refl (s : State) : s.Follows s where
  kept := rfl
  device := .inl rfl
  causes := BitVec.and_self
  cache := fun _ h => h
  toggles := fun _ => .refl _
  exchanging := fun _ _ => ⟨_, _, _, .inl rfl, rfl⟩

theorem State.Follows.trans {s u t : State} (h : s.Follows u) (h' : u.Follows t) : s.Follows t where
  kept := by
    have ht := h'.kept
    rw [h.kept] at ht
    exact ht
  device := by
    obtain ht | ⟨hu, ht⟩ := h'.device
    · rw [ht]; exact h.device
    · obtain hs | ⟨-, hu'⟩ := h.device
      · exact .inr ⟨hs ▸ hu, ht⟩
      · rw [hu] at hu'; cases hu'
  causes := causes_trans h.causes h'.causes
  cache := fun b hb => h.cache b (h'.cache b hb)
  toggles := fun l => (h.toggles l).trans (h'.toggles l)
  exchanging := fun l hl => by
    obtain ⟨slot, u', r, hslot, hu⟩ := h.exchanging l hl
    obtain ⟨slot', u'', r', hslot', ht⟩ := h'.exchanging l (by rw [hu]; exact hl)
    refine ⟨slot', u'', r', ?_, by rw [ht, hu]⟩
    obtain rfl | rfl := hslot'
    · rw [hu]; exact hslot
    · exact .inr rfl

/-- A line replaced by one with the same toggles, where the engine was not EXCHANGING or only its slot and reserved places
changed. -/
theorem State.Follows.setLine (s : State) (l : LineId) (ln : Line) (htoggles : (s.line l).SameToggles ln)
    (hexchanging : (s.line l).engine.state = .exchanging →
      ∃ slot u r, (slot = (s.line l).engine.slot ∨ slot = none) ∧
        ln = { s.line l with engine := { (s.line l).engine with
          slot := slot, urgentReserved := u, routineReserved := r } }) : s.Follows (s.setLine l ln) where
  kept := rfl
  device := .inl rfl
  causes := BitVec.and_self
  cache := fun _ h => h
  toggles := fun m => by
    rw [State.line_setLine]
    split
    · next hm => subst hm; exact htoggles
    · exact .refl _
  exchanging := fun m hm => by
    rw [State.line_setLine]
    split
    · next he => subst he; exact hexchanging hm
    · exact ⟨_, _, _, .inl rfl, rfl⟩

/-- Changes that touch no line. -/
theorem State.Follows.of_lines {s t : State} (hlines : t.lines = s.lines)
    (hkept : t = { s with
      fetcher := t.fetcher, cache := t.cache, cacheReserved := t.cacheReserved, serviceSlot := t.serviceSlot,
      serviceOwed := t.serviceOwed, freeCount := t.freeCount,
      writer := { s.writer with
        unannounced := t.writer.unannounced, holdoff := t.writer.holdoff, pointer := t.writer.pointer,
        write := t.writer.write } })
    (hcache : ∀ b ∈ t.cache, b ∈ s.cache) : s.Follows t where
  kept := by rw [hkept]
  device := .inl (by rw [hkept])
  causes := by rw [hkept]; exact BitVec.and_self
  cache := hcache
  toggles := fun l => by rw [State.line_congr hlines l]; exact .refl _
  exchanging := fun l _ => ⟨_, _, _, .inl rfl, by rw [State.line_congr hlines l]⟩

theorem State.fetchBegin_follows {s t : State} (h : s.fetchBegin = some t) : s.Follows t := by
  obtain ⟨-, r, -, rfl⟩ := State.fetchBegin_cases h
  have hfetch : s.Follows { s with fetcher := { pointer := r, fetch := some { ring := r, phase := .read } } } :=
    .of_lines rfl rfl (fun _ hb => hb)
  refine hfetch.trans ?_
  generalize ({ s with fetcher := { pointer := r, fetch := some { ring := r, phase := .read } } } : State) = u
  obtain ⟨l, side, -, h⟩ | ⟨-, h⟩ := u.reserve_cases r <;> rw [h]
  · refine .setLine u l _ (.of_table rfl) (fun _ => ?_)
    rw [Engine.setReserved_eq]
    exact ⟨_, _, _, .inl rfl, rfl⟩
  · exact .of_lines rfl rfl (fun _ hb => hb)

/-- What an engine's move leaves in the cache was in it. -/
theorem State.engineMove_follows {s t : State} {l : LineId} (h : s.engineMove l = some t) : s.Follows t := by
  obtain ⟨ln, cache, hstep, rfl⟩ := State.engineMove_cases h
  obtain ⟨hstate, hwork⟩ := Line.engineStep_unit hstep
  have hcache : ∀ b ∈ cache, b ∈ s.cache := by
    obtain ⟨rfl, -⟩ | ⟨k, b, -, -, hc, -⟩ := hwork
    · exact fun _ hb => hb
    · rw [hc]; exact fun _ hb => List.mem_cons_of_mem _ hb
  have htoggles : (s.line l).SameToggles ln := by
    obtain ⟨-, d, hunit⟩ | hgrant := hwork
    · exact hunit.sameToggles
    · exact hgrant.sameToggles
  have hnot : (s.line l).engine.state ≠ .exchanging := by
    rcases hstate with h | h <;> simp [h]
  exact (State.Follows.setLine s l ln htoggles (fun h => absurd h hnot)).trans (.of_lines rfl rfl hcache)

theorem State.servicePlace_follows {s t : State} (h : s.servicePlace = some t) : s.Follows t := by
  obtain ⟨c, rest, -, -, rfl⟩ := State.servicePlace_cases h
  exact .of_lines rfl rfl (fun _ hb => hb)

theorem State.take_follows {s t : State} {fresh : Bool} (h : s.take fresh = some t) : s.Follows t := by
  obtain ⟨-, k, c, n, u, rfl, ⟨l, -, rfl⟩ | ⟨-, rfl⟩⟩ := State.take_source h
  · have hempty : s.Follows (s.setLine l { s.line l with engine := { (s.line l).engine with slot := none } }) :=
      .setLine s l _ (.of_table rfl) (fun _ => ⟨none, _, _, .inr rfl, rfl⟩)
    exact hempty.trans (.of_lines rfl rfl (fun _ hb => hb))
  · exact .of_lines rfl rfl (fun _ hb => hb)

theorem State.enterHalted_follows {s : State} (h : s.stopped = true) : s.Follows s.enterHalted := by
  obtain ⟨hdevice, hlines, -⟩ := s.stopped_iff.mp h
  have hline : ∀ l, s.enterHalted.line l = (s.line l).clearBarred := fun l => by
    rw [State.enterHalted_eq]; exact s.line_mapLines Line.clearBarred l
  exact {
    kept := by rw [State.enterHalted_eq]
    device := .inr ⟨hdevice, by rw [State.enterHalted_eq]⟩
    causes := by
      rw [State.enterHalted_eq]
      dsimp only
      split
      · exact causes_trans (causes_or _ _) (causes_or _ _)
      · exact causes_or _ _
    cache := by rw [State.enterHalted_eq]; exact fun _ hb => hb
    toggles := fun l n => by simp [hline, Entry.SameToggles]
    exchanging := fun l hl => by rw [(hlines l).1] at hl; cases hl }

theorem State.relabel_follows (s : State) : s.Follows (s.mapLines Line.relabel) where
  kept := rfl
  device := .inl rfl
  causes := BitVec.and_self
  cache := fun _ h => h
  toggles := fun l => by
    obtain ⟨st, h, -⟩ := (s.line l).relabel_eq
    rw [State.line_mapLines, h]
    exact .of_table rfl
  exchanging := fun l hl => by
    obtain ⟨st, h, hst, -⟩ := (s.line l).relabel_eq
    rw [State.line_mapLines, h, hst (by simp [hl]) (by simp [hl])]
    exact ⟨_, _, _, .inl rfl, rfl⟩

/-- What follows within a step is a run of moves, each of which keeps what no rule of it names. -/
theorem State.settleFrom_follows (before s : State) : s.Follows (State.settleFrom before s) :=
  State.settleFrom_keeps (P := s.Follows) before (fun _ _ hs h => hs.trans (State.fetchBegin_follows h))
    (fun _ _ _ hs h => hs.trans (State.engineMove_follows h)) (fun _ _ hs h => hs.trans (State.servicePlace_follows h))
    (fun _ _ _ hs h => hs.trans (State.take_follows h)) (fun _ hs h => hs.trans (State.enterHalted_follows h))
    (fun _ hs => hs.trans (State.relabel_follows _)) s (.refl s)

/-- Settles O17: every kind of move keeps the frame, and so does what follows. -/
theorem whatFollowsLeavesTheRest : Obligations.WhatFollowsLeavesTheRest := by
  intro before s
  obtain ⟨hkept, hdevice, hcauses, hcache, htoggles, hexchanging⟩ := State.settleFrom_follows before s
  exact ⟨hkept, hdevice, hcauses, hcache, htoggles, hexchanging⟩

end Sys2Proof.Machine
end

section
/-! PROOFS. The contexts of a line are not kept in their place from every sound state (O12): the invariants do not say that a
LINE_FAILED that is owed finds no collection. -/

namespace Sys2Proof.Machine

open Sys2Proof.Tests

/-- `rich` with line 1 TRIPPED, its trip not yet processed, a collection that waits for that, and a LINE_FAILED owed, at whose
placing the trip counts as processed (R30). The expiry of an urgent backoff brings its engine to a boundary. -/
def failureOwed : State :=
  { rich.setLine 1 { rich.line 1 with
      driver := { (rich.line 1).driver with state := .tripped, settle := none },
      engine := { (rich.line 1).engine with
        urgentDeadline := some 0, collection := some collecting,
        owed := [⟨lineEvent 1 .lineFailed 0, .driverFailed⟩], tripPending := true } } with
    pending := [.busyBackoffExpiry 1 .urgent] }

theorem failureOwed_sound : failureOwed.Sound where
  wire := by unfold State.wireSafe Line.wireSafe Frame.agrees; decide +kernel
  queues := by
    refine ⟨fun l side => ?_, by decide +kernel, by decide +kernel⟩
    cases side <;> revert l <;> decide +kernel
  ring := by unfold State.ringSound; decide +kernel
  device := by
    refine ⟨by decide, by decide, fun _ => ⟨by decide, by decide +kernel⟩, by decide, by decide⟩
  accounted := by unfold State.accountedFor; decide
  entries := by unfold State.entriesWf Entry.wf; decide +kernel
  drivers := by unfold State.driversSound; decide +kernel
  active := by unfold State.activeSound Line.activeIsHead; decide +kernel
  collections := by unfold State.collectionsSound Line.collectionPlaced; decide +kernel

/-- The step places LINE_FAILED: the trip is no longer pending, and the collection belongs to no round. -/
theorem failureOwed_step_strands :
    ((got (step failureOwed)).line 1).engine.collection.isSome = true ∧
      ((got (step failureOwed)).line 1).rounds.round = none ∧
      ((got (step failureOwed)).line 1).engine.tripPending = false := by decide +kernel

/-- Refutes O12: a sound state with a LINE_FAILED owed beside a collection goes to one whose collection is in no place. -/
theorem not_stepKeepsContextsPlaced : ¬ Obligations.StepKeepsContextsPlaced := by
  intro holds
  obtain ⟨-, placed⟩ := holds failureOwed (got (step failureOwed)) failureOwed_sound rfl
  obtain ⟨hcollection, hround, htrip⟩ := failureOwed_step_strands
  obtain ⟨hplaced, -⟩ := placed 1
  obtain hsome | hpending := hplaced hcollection
  · rw [hround] at hsome; cases hsome
  · rw [htrip] at hpending; cases hpending

end Sys2Proof.Machine
end

section
/-! PROOFS. The end of an access or of an exchange, as units of work: an access ends with a unit from the line whose work is
over, an exchange with the change of its entry, its events and small changes (R41, R83, R98 to R112, R132 to R135). -/

namespace Sys2Proof.Machine

section
variable (x : LineCtx) (d : DeviceState) (ln : Line)

/-! ## Accesses -/

/-- The head's context as it is set up (R96). -/
theorem Line.sendStep_begin {r : Request} {rest : List Request} {n : Node} (t : Transfer)
    (hr : ln.engine.routine = r :: rest) (hnone : ln.engine.transfer = none) (hn : nodeOf r.node = some n)
    (htag : t.tag = r.tag) (hnode : t.node = n) (hlength : t.length = r.length.toNat) (haddr : t.hostAddr = r.hostAddr) :
    Line.Unit x d ln (ln.sendStep t r) :=
  Line.sendStep_unit x d ln t r
    (.one (.beginTransfer ln t r hnone (by rw [hr]; rfl) htag (hnode ▸ hn) hlength haddr))

theorem Line.segmentRead_unit (length : Nat) (data : Option (List Byte)) :
    Line.Unit x d ln.endWork (ln.segmentRead x.line length data) := by
  unfold Line.segmentRead
  split
  · exact (Line.Quiet.refl _).unit
  · next r rest hr =>
    split
    · exact (Line.Quiet.one (.completeRoutine _ _ _ _)).unit
    · next hnone =>
      split
      · exact (Line.Quiet.refl _).unit
      · next n hn => exact Line.sendStep_begin x d ln.endWork _ hr hnone hn rfl rfl rfl rfl
    · split
      · exact (Line.Quiet.one (.setCont _ _ rfl)).unit
      · exact (Line.completeActive_quiet x d _ _ _).unit
    · next t bytes ht =>
      exact Line.sendStep_unit x d ln.endWork _ r (.one (.updateTransfer _ t _ ht rfl rfl rfl rfl))

theorem Line.responseWritten_quiet (side : QueueSide) (length : Nat) (good : Bool) :
    Line.Quiet x d ln.endWork (ln.responseWritten x.line side length good) := by
  unfold Line.responseWritten
  cases side with
  | urgent => exact .one (.completeUrgent _ _ _ _)
  | routine => exact .one (.completeRoutine _ _ _ _)

theorem Line.fetchWritten_quiet (length : Nat) (after : FetchAfter) (good : Bool) :
    Line.Quiet x d ln.endWork (ln.fetchWritten x.line length after good) := by
  unfold Line.fetchWritten
  split
  · exact .refl _
  · next t ht =>
    dsimp only
    generalize hcounted : (if good = true then { t with bytesDone := t.bytesDone + length, busyCount := 0 } else t) = t'
    have hsame : t'.tag = t.tag ∧ t'.node = t.node ∧ t'.length = t.length ∧ t'.hostAddr = t.hostAddr := by
      rw [← hcounted]; split <;> exact ⟨rfl, rfl, rfl, rfl⟩
    obtain ⟨htag, hnode, hlength, haddr⟩ := hsame
    have hset : Line.Quiet x d ln.endWork (ln.endWork.setTransfer t') :=
      .one (.updateTransfer _ t t' ht htag hnode hlength haddr)
    have hclosed : ∀ code, Line.Quiet x d ln.endWork
        (((ln.endWork.setTransfer t').setTransfer { t' with sessionOpen := false }).completeActive x.line code 0) :=
      fun code => (hset.step (.updateTransfer _ t' _ rfl rfl rfl rfl rfl)).trans (Line.completeActive_quiet x d _ _ _)
    split
    · split
      · exact hset
      · exact hset.step (.setCont _ _ rfl)
    · exact hclosed _
    · exact hset.step (.setCont _ _ rfl)
    · exact hclosed _

theorem Line.collectWritten_unit (length : Nat) (after : CollectAfter) (good : Bool) :
    Line.Unit x d ln.endWork (ln.collectWritten x.line length after good) := by
  unfold Line.collectWritten
  split
  · exact (Line.Quiet.refl _).unit
  · next k hk =>
    split
    · dsimp only
      have hset : Line.Quiet x d ln.endWork { ln.endWork with engine := { ln.endWork.engine with
          collection := some { k with bytesWritten := k.bytesWritten + length } } } :=
        .one (.updateCollection _ k _ hk rfl)
      split
      · exact hset.unit
      · split
        · exact .after hset (Line.sendCollected_unit x d _ _ rfl)
        · exact (hset.trans (Line.endCollection_quiet x d _ _)).unit
      · exact (hset.trans (Line.endCollection_quiet x d _ _)).unit
    · exact (Line.endCollection_quiet x d _ _).unit

/-! ## Exchanges -/

theorem Line.urgentSendEnd_quiet (res : ExchangeResult) : Line.Quiet x d ln (ln.urgentSendEnd x res) := by
  unfold Line.urgentSendEnd
  split
  · exact .refl _
  · split
    · exact .one (.completeUrgent _ _ _ _)
    · split
      · split
        · exact .one (.completeUrgent _ _ _ _)
        · exact .one (.setCont _ _ rfl)
      · dsimp only
        split
        · exact .one (.completeUrgent _ _ _ _)
        · exact .one (.urgentBusy _ _ _)
      · exact .one (.completeUrgent _ _ _ _)

theorem Line.probeEnd_quiet (res : ExchangeResult) : Line.Quiet x d ln (ln.probeEnd x.line res) := by
  unfold Line.probeEnd
  split <;> exact .one (.completeUrgent _ _ _ _)

theorem Line.abortCloseEnd_quiet : Line.Quiet x d ln (ln.abortCloseEnd x.line) := by
  unfold Line.abortCloseEnd
  split
  · exact .refl _
  · exact Line.abortActive_quiet x d ln _

theorem Line.stepBusy_quiet {t : Transfer} (ht : ln.engine.transfer = some t) : Line.Quiet x d ln (ln.stepBusy x t) := by
  unfold Line.stepBusy
  dsimp only
  have hset : Line.Quiet x d ln (ln.setTransfer { t with busyCount := busyNext t.busyCount }) :=
    .one (.updateTransfer _ t _ ht rfl rfl rfl rfl)
  split
  · split
    · exact hset.step (.setCont _ _ rfl)
    · exact hset.trans (Line.completeActive_quiet x d _ _ _)
  · exact .one (.updateTransfer _ t _ ht rfl rfl rfl rfl)

theorem Line.stepEnd_quiet (res : ExchangeResult) : Line.Quiet x d ln (ln.stepEnd x res) := by
  unfold Line.stepEnd
  split
  · exact .refl _
  · next t ht =>
    have hset : ∀ t' : Transfer, t'.tag = t.tag → t'.node = t.node → t'.length = t.length → t'.hostAddr = t.hostAddr →
        Line.Quiet x d ln (ln.setTransfer t') := fun t' h1 h2 h3 h4 => .one (.updateTransfer _ t t' ht h1 h2 h3 h4)
    split
    · exact Line.completeActive_quiet x d _ _ _
    · split
      · exact Line.stepBusy_quiet x d ln ht
      · exact (hset _ rfl rfl rfl rfl).trans (Line.completeActive_quiet x d _ _ _)
      · split
        · unfold Line.commandAck
          split
          · exact .one (.completeRoutine _ _ _ _)
          · exact .one (.setCont _ _ rfl)
        · unfold Line.wdataAck
          dsimp only
          split
          · refine .trans ?_ (Line.completeActive_quiet x d _ _ _)
            exact hset _ rfl rfl rfl rfl
          · exact hset _ rfl rfl rfl rfl
        · unfold Line.ropenAck
          dsimp only
          split
          · refine .step ?_ (.setCont _ _ rfl)
            exact hset _ rfl rfl rfl rfl
          · exact hset _ rfl rfl rfl rfl
        · exact .one (.setCont _ _ rfl)
        · exact Line.completeActive_quiet x d _ _ _

theorem Line.closingEnd_quiet : Line.Quiet x d ln (ln.closingEnd x.line) := by
  unfold Line.closingEnd
  split
  · exact Line.completeActive_quiet x d _ _ _
  · exact .refl _

theorem Line.collectEnd_quiet (res : ExchangeResult) : Line.Quiet x d ln (ln.collectEnd x res) := by
  unfold Line.collectEnd
  split
  · exact .refl _
  · split
    · exact Line.endCollection_quiet x d _ _
    · split
      · exact Line.endCollection_quiet x d _ _
      · exact Line.endCollection_quiet x d _ _
      · split
        · exact .refl _
        · exact .one (.setCont _ _ rfl)

/-- The end of a POLL sets up a collection without a buffer, or is a small change (R67, R68, R69). -/
theorem Line.pollEnd_cases (before : EntryState) (n : Node) (res : ExchangeResult) :
    Line.Quiet x d ln (ln.pollEnd before n res) ∨
      ∃ k, k.buffer = none ∧ ln.pollEnd before n res = { ln with engine := { ln.engine with collection := some k } } := by
  unfold Line.pollEnd
  split
  · exact .inl (.one (.setCont _ _ rfl))
  · split
    · exact .inl (.one (.rounds _ _))
    · split
      · exact .inr ⟨_, rfl, rfl⟩
      · exact .inl (.one (.setCont _ _ rfl))

/-- The end of a CLOSE COLLECTED makes one entry's offer length absent; the rest are small changes (R135). -/
theorem Line.closeCollectedEnd_cases (res : ExchangeResult) :
    Line.Quiet x d ln (ln.closeCollectedEnd x res) ∨
      ∃ k, ln.engine.collection = some k ∧
        Line.Quiet x d (ln.setEntry k.node { ln.entry k.node with offerLength := none }) (ln.closeCollectedEnd x res) := by
  unfold Line.closeCollectedEnd
  split
  · exact .inl (.refl _)
  · next k hk => exact .inr ⟨k, hk, Line.endCollection_quiet x d _ _⟩

/-- The consequence of an exchange for the work it belonged to (R41 step 4): small changes; after the CLOSE COLLECTED with
an entry's offer length made absent; or a collection set up by a POLL's offer. -/
theorem Line.workEnd_cases (p : Purpose) (before : EntryState) (n : Node) (res : ExchangeResult) :
    Line.Quiet x d ln (ln.workEnd x p before n res) ∨
      (p = .closeCollected ∧ ∃ k, ln.engine.collection = some k ∧
        Line.Quiet x d (ln.setEntry k.node { ln.entry k.node with offerLength := none }) (ln.workEnd x p before n res)) ∨
      (p = .poll ∧ ∃ k, k.buffer = none ∧
        ln.workEnd x p before n res = { ln with engine := { ln.engine with collection := some k } }) := by
  cases p with
  | urgentSend => exact .inl (Line.urgentSendEnd_quiet x d ln res)
  | urgentProbe => exact .inl (Line.probeEnd_quiet x d ln res)
  | abortClose => exact .inl (Line.abortCloseEnd_quiet x d ln)
  | poll =>
    obtain hq | hk := Line.pollEnd_cases x d ln before n res
    · exact .inl hq
    · exact .inr (.inr ⟨rfl, hk⟩)
  | identifyTurn => exact .inl (.one (.setCont ln .advance rfl))
  | rejoin => exact .inl (.one (.setCont ln .advance rfl))
  | collect => exact .inl (Line.collectEnd_quiet x d ln res)
  | closeCollected =>
    obtain hq | hk := Line.closeCollectedEnd_cases x d ln res
    · exact .inl hq
    · exact .inr (.inl ⟨rfl, hk⟩)
  | step => exact .inl (Line.stepEnd_quiet x d ln res)
  | closing => exact .inl (Line.closingEnd_quiet x d ln)

end

/-- The line whose exchange is over and whose entry and events the result has changed: steps 1 to 3 of R41, before the
consequence for the work. -/
def Line.exchangeApplied (ln : Line) (x : LineCtx) (f : Frame) (res : ExchangeResult) : Line :=
  (({ ln.endWork with xcvr := Transceiver.initial } : Line).setEntry f.node
    ((ln.entry f.node).afterExchange x.cfg f.kind res).1).produceAll
      (eventRecords x.line f.node ((ln.entry f.node).afterExchange x.cfg f.kind res).2)

/-- An exchange that was not cut off: the entry and its events, then the consequence for the work (R41). -/
theorem Line.exchangeEnd_of_not_tripped {ln : Line} {x : LineCtx} {res : ExchangeResult} {p : Purpose} {f : Frame}
    (hp : ln.engine.purpose = some p) (hf : ln.xcvr.frame = some f) (hres : res.tripped = false) :
    ln.exchangeEnd x res = (ln.exchangeApplied x f res).workEnd x p (ln.entry f.node).state f.node res := by
  simp [Line.exchangeEnd, Line.exchangeApplied, hp, hf, hres]

/-- An exchange that belongs to no work only ends (log 18). -/
theorem Line.exchangeEnd_of_none {ln : Line} {x : LineCtx} {res : ExchangeResult}
    (h : ln.engine.purpose = none ∨ ln.xcvr.frame = none) :
    ln.exchangeEnd x res = { ln.endWork with xcvr := Transceiver.initial } := by
  unfold Line.exchangeEnd
  dsimp only
  split
  · next p f hp hf => obtain h | h := h <;> simp_all
  · rfl

/-- What the result of an exchange changes at once: the wire, the engine's exchange, one entry and the events owed. -/
@[simp] theorem Line.exchangeApplied_leaves (ln : Line) (x : LineCtx) (f : Frame) (res : ExchangeResult) :
    let m := ln.exchangeApplied x f res
    (∀ n, m.entry n = if n = f.node then ((ln.entry f.node).afterExchange x.cfg f.kind res).1 else ln.entry n) ∧
      m.driver = ln.driver ∧ m.xcvr = Transceiver.initial ∧ m.rounds = ln.rounds ∧ m.engine.state = .idle ∧
      m.engine.urgent = ln.engine.urgent ∧ m.engine.routine = ln.engine.routine ∧
      m.engine.urgentReserved = ln.engine.urgentReserved ∧ m.engine.routineReserved = ln.engine.routineReserved ∧
      m.engine.transfer = ln.engine.transfer ∧ m.engine.collection = ln.engine.collection ∧
      m.engine.slot = ln.engine.slot ∧ m.engine.cont = .boundary ∧ m.engine.purpose = none ∧ m.engine.access = none ∧
      m.engine.tripPending = ln.engine.tripPending ∧ m.engine.lineUpOwed = ln.engine.lineUpOwed ∧
      m.engine.owed = ln.engine.owed ++
        (eventRecords x.line f.node ((ln.entry f.node).afterExchange x.cfg f.kind res).2).map (fun c => ⟨c, .none⟩) := by
  simp only [Line.exchangeApplied, Line.produceAll_eq]
  refine ⟨fun n => ?_, by simp⟩
  exact Line.entry_setEntry _ _ _ _

end Sys2Proof.Machine
end

section
/-! PROOFS. What a command does, said once: every command answers a next state, which is its own effect or what follows from
it; and its own effect is one of a few kinds. -/

namespace Sys2Proof.Machine

/-! ## The meanings as next states -/

@[simp] theorem exec_powerOn (s : State) : exec .powerOn s = .next s.powerOnPart := rfl
@[simp] theorem exec_post (v : Word) (s : State) : exec (.post v) s = .next (s.postWrite v) := rfl
@[simp] theorem exec_complConsumed (v : Word) (s : State) : exec (.complConsumed v) s = .next (s.consumedWrite v) := rfl
@[simp] theorem exec_intStatusWrite (v : Word) (s : State) : exec (.intStatusWrite v) s = .next (s.statusWrite v) := rfl

@[simp] theorem exec_registerWrite (offset : BitVec 6) (size : AccessSize) (v : Word) (s : State) :
    exec (.registerWrite offset size v) s = .next (if size = .word then s.wordWrite offset v else s) := by
  cases size <;> rfl

@[simp] theorem exec_configReadDone (read : LoadEnd) (s : State) :
    exec (.configReadDone read) s = .next (match read with
      | .ok data => s.loadRead data false
      | .busError length => s.loadRead (List.replicate length 0) true
      | .discarded => s.accessDiscarded .configRead) := by
  cases read <;> rfl

@[simp] theorem exec_settleTimerExpiry (l : LineId) (s : State) :
    exec (.settleTimerExpiry l) s = .next (if s.serving = true ∧ (s.line l).driver.state = .settling then
      s.wake l ((s.line l).comeUp (s.lineConfig l)) else s) := by
  show execSettleTimerExpiry l s = _
  unfold execSettleTimerExpiry
  dsimp only
  split <;> rfl

@[simp] theorem exec_cooldownTimerExpiry (l : LineId) (s : State) :
    exec (.cooldownTimerExpiry l) s = .next (if s.serving = true ∧ (s.line l).driver.state = .cooldown then
      s.setLine l { s.line l with driver := (s.line l).driver.applySupply (s.lineConfig l) } else s) := by
  show execCooldownTimerExpiry l s = _
  unfold execCooldownTimerExpiry
  dsimp only
  split <;> rfl

@[simp] theorem exec_overcurrentTrip (l : LineId) (s : State) :
    exec (.overcurrentTrip l) s = .next (if s.serving = true ∧
      ((s.line l).driver.state = .settling ∨ (s.line l).driver.state = .up) then
        s.wake l ((s.line l).trip (s.ctx l)) else s) := by
  show execOvercurrentTrip l s = _
  unfold execOvercurrentTrip
  dsimp only
  split <;> rfl

/-- The line whose poll timer has run out: the mark set, and the period started again (R60). -/
def Line.pollDue (ln : Line) (cfg : LineConfig) : Line :=
  { ln with rounds := { ln.rounds with pending := true, pollTimer := cfg.pollTimer } }

@[simp] theorem exec_pollTimerExpiry (l : LineId) (s : State) :
    exec (.pollTimerExpiry l) s = .next (if s.serving = true ∧ (s.line l).rounds.pollTimer.isSome then
      s.wake l ((s.line l).pollDue (s.lineConfig l)) else s) := by
  show execPollTimerExpiry l s = _
  unfold execPollTimerExpiry
  dsimp only
  split <;> rfl

@[simp] theorem exec_busyBackoffExpiry (l : LineId) (side : QueueSide) (s : State) :
    exec (.busyBackoffExpiry l side) s = .next (if s.serving = true then
      (((s.line l).backoffOver side).map (s.wake l)).getD s else s) := by
  show execBusyBackoffExpiry l side s = _
  unfold execBusyBackoffExpiry
  split
  · cases (s.line l).backoffOver side <;> rfl
  · rfl

@[simp] theorem exec_holdoffExpiry (s : State) :
    exec .holdoffExpiry s = .next (if s.writer.holdoff.isSome then
      if 0 < s.writer.unannounced then s.announce else { s with writer := { s.writer with holdoff := none } } else s) := by
  show execHoldoffExpiry s = _
  unfold execHoldoffExpiry
  split
  · split <;> rfl
  · rfl

@[simp] theorem exec_frameSent (l : LineId) (s : State) :
    exec (.frameSent l) s = .next (if (s.line l).xcvr.state = .sending then
      s.setLine l { s.line l with xcvr := (s.line l).xcvr.frameSent (s.lineConfig l) } else s) := by
  show execFrameSent l s = _
  unfold execFrameSent
  dsimp only
  split <;> rfl

@[simp] theorem exec_nodeStartBit (l : LineId) (s : State) :
    exec (.nodeStartBit l) s = .next (if (s.line l).xcvr.state = .waiting then
      s.setLine l { s.line l with xcvr := (s.line l).xcvr.replyBegun } else s) := by
  show execNodeStartBit l s = _
  unfold execNodeStartBit
  dsimp only
  split <;> rfl

@[simp] theorem exec_replyWindowClose (l : LineId) (s : State) :
    exec (.replyWindowClose l) s = .next (if (s.line l).xcvr.state = .waiting then
      s.finish l ((s.line l).attemptFailed (s.ctx l) false) else s) := by
  show execReplyWindowClose l s = _
  unfold execReplyWindowClose
  dsimp only
  split <;> rfl

@[simp] theorem exec_endOfReply (l : LineId) (rx : List RxByte) (s : State) :
    exec (.endOfReply l rx) s = .next (if (s.line l).xcvr.state = .receiving then
      s.finish l ((s.line l).replyEnded (s.ctx l) rx) else s) := by
  show execEndOfReply l rx s = _
  unfold execEndOfReply
  dsimp only
  split <;> rfl

@[simp] theorem exec_replyOverrun (l : LineId) (s : State) :
    exec (.replyOverrun l) s = .next (if (s.line l).xcvr.state = .receiving then
      s.finish l ((s.line l).attemptFailed (s.ctx l) true) else s) := by
  show execReplyOverrun l s = _
  unfold execReplyOverrun
  dsimp only
  split <;> rfl

@[simp] theorem exec_ringReadDone (read : ReadEnd) (s : State) :
    exec (.ringReadDone read) s = .next (match read with
      | .ok data => s.ringReadGood data
      | .busError => s.ringReadBad
      | .discarded => s.accessDiscarded .ringRead) := by
  cases read <;> rfl

@[simp] theorem exec_progressWriteDone (write : WriteEnd) (s : State) :
    exec (.progressWriteDone write) s = .next (match write with
      | .ok => s.progressEnded true
      | .busError => s.progressEnded false
      | .discarded => s.accessDiscarded .progressWrite) := by
  cases write <;> rfl

@[simp] theorem exec_segmentReadDone (l : LineId) (read : ReadEnd) (s : State) :
    exec (.segmentReadDone l read) s = .next (match read with
      | .ok data => s.segmentReadEnded l (some data)
      | .busError => s.segmentReadEnded l none
      | .discarded => s.accessDiscarded (.segmentRead l)) := by
  cases read <;> rfl

@[simp] theorem exec_responseWriteDone (l : LineId) (write : WriteEnd) (s : State) :
    exec (.responseWriteDone l write) s = .next (match write with
      | .ok => s.responseWriteEnded l true
      | .busError => s.responseWriteEnded l false
      | .discarded => s.accessDiscarded (.responseWrite l)) := by
  cases write <;> rfl

@[simp] theorem exec_fetchSegmentWriteDone (l : LineId) (write : WriteEnd) (s : State) :
    exec (.fetchSegmentWriteDone l write) s = .next (match write with
      | .ok => s.fetchWriteEnded l true
      | .busError => s.fetchWriteEnded l false
      | .discarded => s.accessDiscarded (.fetchWrite l)) := by
  cases write <;> rfl

@[simp] theorem exec_collectSegmentWriteDone (l : LineId) (write : WriteEnd) (s : State) :
    exec (.collectSegmentWriteDone l write) s = .next (match write with
      | .ok => s.collectWriteEnded l true
      | .busError => s.collectWriteEnded l false
      | .discarded => s.accessDiscarded (.collectWrite l)) := by
  cases write <;> rfl

@[simp] theorem exec_completionWriteDone (write : WriteEnd) (s : State) :
    exec (.completionWriteDone write) s = .next (match write with
      | .ok => s.completionEnded true
      | .busError => s.completionEnded false
      | .discarded => s.accessDiscarded .completionWrite) := by
  cases write <;> rfl

/-! ## Kinds of effect -/

/-- The command is the row, or a REGISTER_WRITE to the register whose writes are that row, which is ill formed (R171). -/
def ActsAs (row c : Instr) : Prop :=
  c = row ∨ c.wellFormed = false ∧ ∃ offset size value, c = .registerWrite offset size value

/-- The command takes no record from a ring and ends no write of a record. -/
def State.NoRecord (s : State) (c : Instr) : Prop := (∀ which, s.takes which c = 0) ∧ ∀ k, s.writes k c = 0

/-- What a happening brings to the line it is on, before anything follows. -/
inductive Line.Happening (x : LineCtx) (c : Instr) (a : Line) : Line → Prop where
  | comeUp : a.driver.state = .settling → Happening x c a (a.comeUp x.cfg)
  | supply : a.driver.state = .cooldown → Happening x c a { a with driver := a.driver.applySupply x.cfg }
  | trip : a.driver.state = .settling ∨ a.driver.state = .up → Happening x c a (a.trip x)
  | pollDue : Happening x c a (a.pollDue x.cfg)
  | urgentFreed : Happening x c a { a with engine := { a.engine with urgentDeadline := none } }
  | routineFreed (t : Transfer) : a.engine.transfer = some t → Happening x c a (a.setTransfer { t with deadline := none })
  | frameSent : a.xcvr.state = .sending → Happening x c a { a with xcvr := a.xcvr.frameSent x.cfg }
  | replyBegun : a.xcvr.state = .waiting → Happening x c a { a with xcvr := a.xcvr.replyBegun }
  | resend (g : Nat) :
      a.xcvr.state = .waiting ∧ g = a.xcvr.garbled ∨ a.xcvr.state = .receiving ∧ g = a.xcvr.garbled + 1 →
      a.xcvr.attempts < 1 + x.cfg.retryLimit → Happening x c a { a with xcvr := a.xcvr.resend g }
  | failed (g : Nat) :
      a.xcvr.state = .waiting ∨ a.xcvr.state = .receiving →
      Happening x c a (a.exchangeEnd x { reply := none, attempts := a.xcvr.attempts, garbled := g })
  | valid (rx : List RxByte) (f : Frame) (r : Reply) :
      c = .endOfReply x.line rx → a.xcvr.state = .receiving → a.xcvr.frame = some f → judge f rx = some r →
      Happening x c a (a.exchangeEnd x { reply := some r, attempts := a.xcvr.attempts, garbled := a.xcvr.garbled })
  | accessEnd (b : Line) :
      a.engine.state = .exchanging → a.engine.access.isSome → Line.Unit x .running a.endWork b → Happening x c a b

/-- The kinds of effect a command has of its own, before anything follows. -/
inductive State.Effect (s : State) (c : Instr) : State → Prop where
  /-- Registers, causes, the error code and the list of discarded accesses. -/
  | window (u : State) :
      s.NoRecord c →
      u = { s with error := u.error, configBaseLo := u.configBaseLo, configBaseHi := u.configBaseHi,
                   intStatus := u.intStatus, intEnable := u.intEnable, discarding := u.discarding } →
      ((∀ offset size value, c ≠ .registerWrite offset size value) →
        u.configBaseLo = s.configBaseLo ∧ u.configBaseHi = s.configBaseHi ∧ u.intEnable = s.intEnable) →
      ((∀ offset size value, c ≠ .registerWrite offset size value) → (∀ value, c ≠ .intStatusWrite value) →
        u.intStatus &&& s.intStatus = s.intStatus) → Effect s c u
  | powerOn : c = .powerOn → Effect s c s.powerOnPart
  | reset : s.NoRecord c → ActsAs .reset c → Effect s c s.resetPart
  | loadBegins : s.NoRecord c → s.device = .halted → Effect s c s.startCommand
  | loadAbandoned : s.NoRecord c → s.device = .loading → Effect s c s.abandonLoad
  | loadGoesOn (ld : Loader) : s.NoRecord c → s.device = .loading → Effect s c { s with loader := some ld }
  | loadFailed (code : ErrorCode) (i : BitVec 8) :
      s.NoRecord c → s.device = .loading → Effect s c (s.loadFailed code i)
  | started (cfg : LoadedConfig) :
      s.NoRecord c → s.device = .loading → (∃ read, c = .configReadDone read) → cfg.firstBadField = none →
      Effect s c (s.enterRunning cfg)
  | stops : s.NoRecord c → s.device = .running → Effect s c ({ s with device := .stopping }).returnCache
  | posted (r : RingId) (tail : Nat) :
      s.NoRecord c → s.device = .running → Effect s c (s.setRing r { s.ring r with tail := tail })
  | fetched (r : RingId) (tail : Nat) (u : State) :
      s.NoRecord c → s.device = .running → (s.setRing r { s.ring r with tail := tail }).fetchBegin = some u → Effect s c u
  | consumed (i : BitVec 10) (n : Nat) :
      s.NoRecord c → n ≤ s.outstandingCompletions →
      Effect s c { s with
        complConsumed := i, writer := { s.writer with consumed := s.writer.consumed + BitVec.ofNat 16 n } }
  | line (l : LineId) (ln : Line) :
      s.NoRecord c →
      s.serving = true ∨ (s.line l).xcvr.state ≠ .idle ∨ (s.line l).engine.state = .exchanging →
      (s.line l).Happening (s.ctx l) c ln → Effect s c (s.setLine l ln)
  | announced : s.NoRecord c → Effect s c s.announce
  | holdoffStopped : s.NoRecord c → Effect s c { s with writer := { s.writer with holdoff := none } }
  | taken (r : RingId) (data : List Byte) :
      c = .ringReadDone (.ok data) → s.fetcher.fetch = some { ring := r, phase := .read } →
      Effect s c (s.recordTaken r data)
  | readFailed (r : RingId) :
      s.NoRecord c → s.fetcher.fetch = some { ring := r, phase := .read } → Effect s c ((s.release r).breakRing r)
  | progressed (r : RingId) :
      s.NoRecord c → s.fetcher.fetch = some { ring := r, phase := .progress } →
      Effect s c { s with fetcher := { s.fetcher with fetch := none } }
  | progressFailed (r : RingId) :
      s.NoRecord c → s.fetcher.fetch = some { ring := r, phase := .progress } → Effect s c (s.breakRing r)
  | written :
      c = .completionWriteDone .ok → s.serving = true → s.writer.write.isSome → Effect s c s.countWritten.announceDue
  | faulted :
      c = .completionWriteDone .busError → s.serving = true → s.writer.write.isSome → Effect s c s.enterFaulted

/-- The next state is the command's own effect or what follows from it. -/
def State.After (s : State) (c : Instr) (t : State) : Prop :=
  ∃ u, s.Effect c u ∧ (t = u ∨ t = s.settleFrom u)

section
variable {s u t : State} {c : Instr}

theorem State.Effect.after (h : s.Effect c u) : s.After c u := ⟨u, h, .inl rfl⟩

theorem State.Effect.settled (h : s.Effect c u) : s.After c (s.settleFrom u) := ⟨u, h, .inr rfl⟩

/-- A command that changes nothing. -/
theorem State.NoRecord.same (h : s.NoRecord c) : s.After c s :=
  (State.Effect.window s h rfl (fun _ => ⟨rfl, rfl, rfl⟩) (fun _ _ => BitVec.and_self)).after

theorem State.NoRecord.of_ne (hread : ∀ data, c ≠ .ringReadDone (.ok data)) (hwrite : c ≠ .completionWriteDone .ok) :
    s.NoRecord c := by
  constructor
  · intro which
    unfold State.takes
    split
    · exact absurd rfl (hread _)
    · rfl
  · intro k
    simp [State.writes, hwrite]

/-- A read that ends where no slot read is in flight takes nothing. -/
theorem State.NoRecord.of_not_reading (hread : ∀ r, s.fetcher.fetch ≠ some { ring := r, phase := .read })
    (hwrite : c ≠ .completionWriteDone .ok) : s.NoRecord c := by
  constructor
  · intro which
    unfold State.takes
    split
    · next hf => exact absurd hf (hread _)
    · rfl
  · intro k
    simp [State.writes, hwrite]

theorem State.NoRecord.discarded (h : s.NoRecord c) (a : BusAccess) : s.After c (s.accessDiscarded a) :=
  (State.Effect.window (s.accessDiscarded a) h rfl (fun _ => ⟨rfl, rfl, rfl⟩) (fun _ _ => BitVec.and_self)).after

theorem State.NoRecord.raised (h : s.NoRecord c) (cause : BitVec 4) : s.After c (s.raise cause) :=
  (State.Effect.window (s.raise cause) h rfl (fun _ => ⟨rfl, rfl, rfl⟩) (fun _ _ => causes_or _ _)).after

/-! ## The commands of CONTROL and the load -/

theorem State.NoRecord.refused (h : s.NoRecord c) : s.After c s.refuseCommand := by
  have hu : s.refuseCommand = { s with error := s.refuseCommand.error } := by rw [State.refuseCommand_eq]
  refine (State.Effect.window s.refuseCommand h (by rw [hu]) (fun _ => ?_) (fun _ _ => ?_)).after <;> rw [hu]
  · exact ⟨rfl, rfl, rfl⟩
  · exact BitVec.and_self

theorem State.NoRecord.start (h : s.NoRecord c) : s.After c s.startCommand := by
  by_cases hd : s.device = .halted
  · exact (State.Effect.loadBegins h hd).after
  · rw [State.startCommand_of_not_halted hd]
    exact h.refused

theorem State.NoRecord.stop (h : s.NoRecord c) : s.After c s.stopCommand := by
  cases hd : s.device with
  | halted => rw [State.stopCommand_of_halted hd]; exact h.refused
  | loading => rw [State.stopCommand_of_loading hd]; exact (State.Effect.loadAbandoned h hd).after
  | running => rw [State.stopCommand_of_running hd]; exact (State.Effect.stops h hd).settled
  | stopping => rw [State.stopCommand_of_stopping hd]; exact h.same
  | faulted => rw [State.stopCommand_of_faulted hd]; exact h.refused

theorem State.NoRecord.loadRead (h : s.NoRecord c) (hc : ∃ read, c = .configReadDone read) (data : List Byte)
    (failed : Bool) : s.After c (s.loadRead data failed) := by
  unfold State.loadRead
  split
  · next hd =>
    split
    · exact h.same
    · dsimp only
      split
      · exact (State.Effect.loadGoesOn _ h hd).after
      · unfold State.judgeLoad
        split
        · exact (State.Effect.loadFailed _ _ h hd).after
        · dsimp only
          split
          · exact (State.Effect.loadFailed _ _ h hd).after
          · next hgood => exact (State.Effect.started _ h hd hc hgood).after
  · exact h.same

/-! ## The register window -/

theorem State.NoRecord.post (h : s.NoRecord c) (v : Word) : s.After c (s.postWrite v) := by
  unfold State.postWrite
  split
  · next hring =>
    dsimp only
    split
    · next htaken =>
      have hd : s.device = .running := by
        unfold State.postTaken at htaken
        simp only [hring, dif_pos, Bool.and_eq_true, beq_iff_eq] at htaken
        exact htaken.1.1
      cases hf : (s.setRing ⟨postRing v, hring⟩ { s.ring ⟨postRing v, hring⟩ with tail := postTail v }).fetchBegin with
      | none => exact (State.Effect.posted _ _ h hd).after
      | some u => exact (State.Effect.fetched _ _ u h hd hf).after
    · exact h.raised _
  · exact h.raised _

theorem State.NoRecord.complConsumed (h : s.NoRecord c) (v : Word) : s.After c (s.consumedWrite v) := by
  unfold State.consumedWrite
  split
  · dsimp only
    split
    · exact h.raised _
    · split
      · exact h.raised _
      · next hle =>
        split
        · exact h.same
        · exact (State.Effect.consumed _ _ h (by omega)).settled
  · exact h.same

theorem State.After.registerWrite (s : State) (offset : BitVec 6) (size : AccessSize) (v : Word) :
    s.After (.registerWrite offset size v) (if size = .word then s.wordWrite offset v else s) := by
  have h : s.NoRecord (.registerWrite offset size v) := .of_ne (by simp) (by simp)
  have hwrite : ∀ u : State,
      u = { s with configBaseLo := u.configBaseLo, configBaseHi := u.configBaseHi, intStatus := u.intStatus,
                   intEnable := u.intEnable } → s.After (.registerWrite offset size v) u := fun u hu =>
    (State.Effect.window u h (by rw [hu]) (fun hc => absurd rfl (hc _ _ _)) (fun hc => absurd rfl (hc _ _ _))).after
  split
  · next hsize =>
    subst hsize
    have hacts : offset.toNat = 0x04 → ActsAs .reset (.registerWrite offset .word v) := fun ho =>
      .inr ⟨by simp [Instr.wellFormed, ownRowOffset, ← BitVec.toNat_inj, ho], _, _, _, rfl⟩
    unfold State.wordWrite
    split
    · next ho =>
      unfold State.controlWrite
      split
      · exact h.start
      · split
        · exact h.stop
        · split
          · exact (State.Effect.reset h (hacts ho)).after
          · exact h.refused
    · exact hwrite _ rfl
    · exact hwrite _ rfl
    · exact h.post v
    · exact h.complConsumed v
    · exact hwrite _ rfl
    · exact hwrite _ rfl
    · exact h.same
  · exact h.same

/-! ## Happenings on a line -/

theorem State.After.wake {l : LineId} {ln : Line} (h : s.NoRecord c) (hserving : s.serving = true)
    (hln : (s.line l).Happening (s.ctx l) c ln) : s.After c (s.wake l ln) := by
  have heffect : s.Effect c (s.setLine l ln) := .line l ln h (.inl hserving) hln
  unfold State.wake
  split
  · exact heffect.settled
  · exact heffect.after

theorem State.After.finish {l : LineId} {ln : Line} (h : s.NoRecord c)
    (hbusy : (s.line l).xcvr.state ≠ .idle ∨ (s.line l).engine.state = .exchanging)
    (hln : (s.line l).Happening (s.ctx l) c ln) : s.After c (s.finish l ln) := by
  have heffect : s.Effect c (s.setLine l ln) := .line l ln h (.inr hbusy) hln
  unfold State.finish
  split
  · exact heffect.after
  · exact heffect.settled

theorem Line.attemptFailed_happening (x : LineCtx) (c : Instr) (ln : Line) (garbled : Bool)
    (hst : ln.xcvr.state = .waiting ∧ garbled = false ∨ ln.xcvr.state = .receiving ∧ garbled = true) :
    ln.Happening x c (ln.attemptFailed x garbled) := by
  unfold Line.attemptFailed
  dsimp only
  obtain ⟨hst, rfl⟩ | ⟨hst, rfl⟩ := hst
  · split
    · next hlt => exact .resend _ (.inl ⟨hst, rfl⟩) hlt
    · exact .failed _ (.inl hst)
  · split
    · next hlt => exact .resend _ (.inr ⟨hst, rfl⟩) hlt
    · exact .failed _ (.inr hst)

theorem Line.replyEnded_happening {x : LineCtx} {c : Instr} {ln : Line} {rx : List RxByte}
    (hc : c = .endOfReply x.line rx) (hst : ln.xcvr.state = .receiving) : ln.Happening x c (ln.replyEnded x rx) := by
  unfold Line.replyEnded
  split
  · next r hr =>
    obtain ⟨f, hf, hjudge⟩ := Option.bind_eq_some_iff.mp hr
    exact .valid rx f r hc hst hf hjudge
  · exact Line.attemptFailed_happening x c ln true (.inr ⟨hst, rfl⟩)

/-- The end of an engine's access: the line goes through a unit of work (R98). -/
theorem State.After.access {l : LineId} {a : HostAccess} {ln : Line} (h : s.NoRecord c) (ha : s.accessOf l = some a)
    (hunit : Line.Unit (s.ctx l) .running (s.line l).endWork ln) : s.After c (s.finish l ln) := by
  unfold State.accessOf at ha
  split at ha
  · next hst => exact .finish h (.inr hst) (.accessEnd ln hst (by rw [ha]; rfl) hunit)
  · cases ha

theorem State.After.segmentRead (h : s.NoRecord c) (l : LineId) (data : Option (List Byte)) :
    s.After c (s.segmentReadEnded l data) := by
  unfold State.segmentReadEnded
  split
  · next ha => exact .access h ha (Line.segmentRead_unit (s.ctx l) _ _ _ _)
  · exact h.same

theorem State.After.responseWrite (h : s.NoRecord c) (l : LineId) (good : Bool) :
    s.After c (s.responseWriteEnded l good) := by
  unfold State.responseWriteEnded
  split
  · next ha => exact .access h ha (Line.responseWritten_quiet (s.ctx l) _ _ _ _ _).unit
  · exact h.same

theorem State.After.fetchWrite (h : s.NoRecord c) (l : LineId) (good : Bool) :
    s.After c (s.fetchWriteEnded l good) := by
  unfold State.fetchWriteEnded
  split
  · next ha => exact .access h ha (Line.fetchWritten_quiet (s.ctx l) _ _ _ _ _).unit
  · exact h.same

theorem State.After.collectWrite (h : s.NoRecord c) (l : LineId) (good : Bool) :
    s.After c (s.collectWriteEnded l good) := by
  unfold State.collectWriteEnded
  split
  · next ha => exact .access h ha (Line.collectWritten_unit (s.ctx l) _ _ _ _ _)
  · exact h.same

/-! ## Fetches and completion writes -/

theorem State.After.progress (h : s.NoRecord c) (good : Bool) : s.After c (s.progressEnded good) := by
  unfold State.progressEnded
  split
  · next r hf =>
    split
    · exact (State.Effect.progressed r h hf).settled
    · exact (State.Effect.progressFailed r h hf).settled
  · exact h.same

theorem State.After.readBad (h : s.NoRecord c) : s.After c s.ringReadBad := by
  unfold State.ringReadBad
  split
  · next r hf => exact (State.Effect.readFailed r h hf).settled
  · exact h.same

theorem State.After.readGood (s : State) (data : List Byte) : s.After (.ringReadDone (.ok data)) (s.ringReadGood data) := by
  unfold State.ringReadGood
  split
  · next r hf => exact (State.Effect.taken r data rfl hf).settled
  · next hnone => exact (State.NoRecord.of_not_reading (fun r hr => hnone r hr) (by simp)).same

theorem State.After.completionGood (s : State) : s.After (.completionWriteDone .ok) (s.completionEnded true) := by
  unfold State.completionEnded
  split
  · next h => exact (State.Effect.written rfl h.1 h.2).settled
  · next h =>
    refine State.NoRecord.same ⟨fun which => rfl, fun k => ?_⟩
    by_cases hserving : s.serving = true
    · have hnone : s.writer.write = none := by simpa [hserving] using h
      simp [State.writes, hserving, State.writing, hnone]
    · simp [State.writes, hserving]

theorem State.After.completionBad (s : State) : s.After (.completionWriteDone .busError) (s.completionEnded false) := by
  unfold State.completionEnded
  split
  · next h => exact (State.Effect.faulted rfl h.1 h.2).after
  · exact (State.NoRecord.of_ne (by simp) (by simp)).same

end

/-- Every command answers a next state: its own effect, or what follows from it. -/
theorem exec_after (c : Instr) (s : State) : ∃ t, exec c s = .next t ∧ s.After c t := by
  have h : ∀ {c : Instr}, (∀ data, c ≠ .ringReadDone (.ok data)) → c ≠ .completionWriteDone .ok → s.NoRecord c :=
    fun hread hwrite => .of_ne hread hwrite
  cases c with
  | powerOn => exact ⟨_, rfl, (State.Effect.powerOn rfl).after⟩
  | start => exact ⟨_, rfl, (h (by simp) (by simp)).start⟩
  | stop => exact ⟨_, rfl, (h (by simp) (by simp)).stop⟩
  | reset => exact ⟨_, rfl, (State.Effect.reset (h (by simp) (by simp)) (.inl rfl)).after⟩
  | controlNoCommand => exact ⟨_, rfl, (h (by simp) (by simp)).refused⟩
  | post v => exact ⟨_, rfl, (h (by simp) (by simp)).post v⟩
  | complConsumed v => exact ⟨_, rfl, (h (by simp) (by simp)).complConsumed v⟩
  | intStatusWrite v =>
    exact ⟨_, rfl, (State.Effect.window (s.statusWrite v) (h (by simp) (by simp)) rfl (fun _ => ⟨rfl, rfl, rfl⟩)
      (fun _ hc => absurd rfl (hc v))).after⟩
  | registerWrite offset size v => exact ⟨_, exec_registerWrite .., .registerWrite s offset size v⟩
  | configReadDone read =>
    refine ⟨_, exec_configReadDone .., ?_⟩
    have hn : s.NoRecord (.configReadDone read) := h (by simp) (by simp)
    cases read with
    | ok data => exact hn.loadRead ⟨_, rfl⟩ _ _
    | busError length => exact hn.loadRead ⟨_, rfl⟩ _ _
    | discarded => exact hn.discarded _
  | settleTimerExpiry l =>
    refine ⟨_, exec_settleTimerExpiry .., ?_⟩
    have hn : s.NoRecord (.settleTimerExpiry l) := h (by simp) (by simp)
    split
    · next hs => exact .wake hn hs.1 (.comeUp hs.2)
    · exact hn.same
  | cooldownTimerExpiry l =>
    refine ⟨_, exec_cooldownTimerExpiry .., ?_⟩
    have hn : s.NoRecord (.cooldownTimerExpiry l) := h (by simp) (by simp)
    split
    · next hs => exact (State.Effect.line l _ hn (.inl hs.1) (.supply hs.2)).after
    · exact hn.same
  | overcurrentTrip l =>
    refine ⟨_, exec_overcurrentTrip .., ?_⟩
    have hn : s.NoRecord (.overcurrentTrip l) := h (by simp) (by simp)
    split
    · next hs => exact .wake hn hs.1 (.trip hs.2)
    · exact hn.same
  | pollTimerExpiry l =>
    refine ⟨_, exec_pollTimerExpiry .., ?_⟩
    have hn : s.NoRecord (.pollTimerExpiry l) := h (by simp) (by simp)
    split
    · next hs => exact .wake hn hs.1 .pollDue
    · exact hn.same
  | busyBackoffExpiry l side =>
    refine ⟨_, exec_busyBackoffExpiry .., ?_⟩
    have hn : s.NoRecord (.busyBackoffExpiry l side) := h (by simp) (by simp)
    split
    · next hs =>
      cases side with
      | urgent =>
        unfold Line.backoffOver
        dsimp only
        split
        · exact .wake hn hs .urgentFreed
        · exact hn.same
      | routine =>
        unfold Line.backoffOver
        dsimp only
        split
        · exact hn.same
        · next t ht =>
          split
          · exact .wake hn hs (.routineFreed t ht)
          · exact hn.same
    · exact hn.same
  | holdoffExpiry =>
    refine ⟨_, exec_holdoffExpiry .., ?_⟩
    have hn : s.NoRecord .holdoffExpiry := h (by simp) (by simp)
    split
    · split
      · exact (State.Effect.announced hn).after
      · exact (State.Effect.holdoffStopped hn).after
    · exact hn.same
  | frameSent l =>
    refine ⟨_, exec_frameSent .., ?_⟩
    have hn : s.NoRecord (.frameSent l) := h (by simp) (by simp)
    split
    · next hs => exact (State.Effect.line l _ hn (.inr (.inl (by simp [hs]))) (.frameSent hs)).after
    · exact hn.same
  | replyWindowClose l =>
    refine ⟨_, exec_replyWindowClose .., ?_⟩
    have hn : s.NoRecord (.replyWindowClose l) := h (by simp) (by simp)
    split
    · next hs =>
      exact .finish hn (.inl (by simp [hs])) (Line.attemptFailed_happening _ _ _ _ (.inl ⟨hs, rfl⟩))
    · exact hn.same
  | endOfReply l rx =>
    refine ⟨_, exec_endOfReply .., ?_⟩
    have hn : s.NoRecord (.endOfReply l rx) := h (by simp) (by simp)
    split
    · next hs => exact .finish hn (.inl (by simp [hs])) (Line.replyEnded_happening rfl hs)
    · exact hn.same
  | replyOverrun l =>
    refine ⟨_, exec_replyOverrun .., ?_⟩
    have hn : s.NoRecord (.replyOverrun l) := h (by simp) (by simp)
    split
    · next hs =>
      exact .finish hn (.inl (by simp [hs])) (Line.attemptFailed_happening _ _ _ _ (.inr ⟨hs, rfl⟩))
    · exact hn.same
  | ringReadDone read =>
    refine ⟨_, exec_ringReadDone .., ?_⟩
    cases read with
    | ok data => exact .readGood s data
    | busError => exact .readBad (h (by simp) (by simp))
    | discarded => exact (h (by simp) (by simp)).discarded _
  | progressWriteDone write =>
    refine ⟨_, exec_progressWriteDone .., ?_⟩
    have hn : s.NoRecord (.progressWriteDone write) := h (by simp) (by simp)
    cases write with
    | ok => exact .progress hn _
    | busError => exact .progress hn _
    | discarded => exact hn.discarded _
  | segmentReadDone l read =>
    refine ⟨_, exec_segmentReadDone .., ?_⟩
    have hn : s.NoRecord (.segmentReadDone l read) := h (by simp) (by simp)
    cases read with
    | ok data => exact .segmentRead hn _ _
    | busError => exact .segmentRead hn _ _
    | discarded => exact hn.discarded _
  | responseWriteDone l write =>
    refine ⟨_, exec_responseWriteDone .., ?_⟩
    have hn : s.NoRecord (.responseWriteDone l write) := h (by simp) (by simp)
    cases write with
    | ok => exact .responseWrite hn _ _
    | busError => exact .responseWrite hn _ _
    | discarded => exact hn.discarded _
  | fetchSegmentWriteDone l write =>
    refine ⟨_, exec_fetchSegmentWriteDone .., ?_⟩
    have hn : s.NoRecord (.fetchSegmentWriteDone l write) := h (by simp) (by simp)
    cases write with
    | ok => exact .fetchWrite hn _ _
    | busError => exact .fetchWrite hn _ _
    | discarded => exact hn.discarded _
  | collectSegmentWriteDone l write =>
    refine ⟨_, exec_collectSegmentWriteDone .., ?_⟩
    have hn : s.NoRecord (.collectSegmentWriteDone l write) := h (by simp) (by simp)
    cases write with
    | ok => exact .collectWrite hn _ _
    | busError => exact .collectWrite hn _ _
    | discarded => exact hn.discarded _
  | completionWriteDone write =>
    refine ⟨_, exec_completionWriteDone .., ?_⟩
    cases write with
    | ok => exact .completionGood s
    | busError => exact .completionBad s
    | discarded => exact (h (by simp) (by simp)).discarded _
  | nodeStartBit l =>
    refine ⟨_, exec_nodeStartBit .., ?_⟩
    have hn : s.NoRecord (.nodeStartBit l) := h (by simp) (by simp)
    split
    · next hs => exact (State.Effect.line l _ hn (.inr (.inl (by simp [hs]))) (.replyBegun hs)).after
    · exact hn.same

/-- The next state of a command that has answered it. -/
theorem State.After.of_exec {c : Instr} {s t : State} (h : exec c s = .next t) : s.After c t := by
  obtain ⟨t', ht', hafter⟩ := exec_after c s
  rw [h] at ht'
  cases ht'
  exact hafter

end Sys2Proof.Machine
end

section
/-! PROOFS. The machine's step: the front command, the microsecond of the Time Base, the values that only their commands
change, power-on and RESET, and the ends of discarded accesses (R155, R163, R168, R171). -/

namespace Sys2Proof.Machine

/-! ## The step -/

theorem step_of_command (c : Instr) (rest : List Instr) (s : State) (h : s.pending = c :: rest) :
    step s = exec c { s with pending := rest } := by
  simp [step, h]

theorem step_of_idle {s : State} (h : s.pending = []) : step s = .next s.tick := by
  simp [step, h]

@[simp] theorem State.serving_iff (s : State) : s.serving = true ↔ s.device = .running ∨ s.device = .stopping := by
  simp [State.serving]

/-- Settles O1. -/
theorem stepRunsTheFrontCommand : Obligations.StepRunsTheFrontCommand := by
  intro c rest s
  exact step_of_command c rest { s with pending := c :: rest } rfl

/-- Time passes in RUNNING and STOPPING (R163). -/
theorem State.tick_of_serving {s : State} (h : s.serving = true) :
    s.tick = { s.mapLines Line.tick with
      stamp := s.stamp + 1, writer := { s.writer with holdoff := Timer.tick s.writer.holdoff } } :=
  if_pos h

theorem State.tick_of_not_serving {s : State} (h : s.serving = false) : s.tick = s := by
  simp [State.tick, h]

/-- Settles O2. -/
theorem idleStepIsOneMicrosecond : Obligations.IdleStepIsOneMicrosecond := by
  intro s hidle
  rw [step_of_idle hidle]
  constructor
  · rintro ⟨hrun, hstop⟩
    rw [State.tick_of_not_serving (by simp [State.serving, hrun, hstop])]
  · intro hserving
    refine ⟨s.tick, rfl, ?_⟩
    rw [State.tick_of_serving (s.serving_iff.mpr hserving)]
    exact ⟨rfl, fun l => s.line_mapLines Line.tick l⟩

/-! ## What no effect changes -/

/-- What follows within a step leaves the registers and the loaded configuration. -/
theorem State.Follows.leaves {s t : State} (h : s.Follows t) :
    t.pending = s.pending ∧ t.loaded = s.loaded ∧ t.configBaseLo = s.configBaseLo ∧ t.configBaseHi = s.configBaseHi ∧
      t.intEnable = s.intEnable ∧ t.complConsumed = s.complConsumed ∧ t.stamp = s.stamp ∧ t.error = s.error ∧
      t.errorField = s.errorField ∧ t.rings = s.rings ∧ t.loader = s.loader ∧ t.discarding = s.discarding ∧
      t.writer.producer = s.writer.producer ∧ t.writer.consumed = s.writer.consumed ∧
      t.writer.phase = s.writer.phase := by
  rw [h.kept]
  simp

/-! ## The end of a slot read -/

/-- The consumer index advances and the write of the progress word begins (R144, R145). -/
def State.indexMoved (s : State) (r : RingId) : State :=
  { s.setRing r { s.ring r with consumer := nextIndex (s.ringSize r) (s.ring r).consumer } with
    fetcher := { s.fetcher with fetch := some { ring := r, phase := .progress } } }

/-- A request record joins the back of its queue in its reserved place (R86). -/
def Engine.queued (g : Engine) (side : QueueSide) (r : Request) : Engine :=
  match side with
  | .urgent => { g with urgent := g.urgent ++ [r], urgentReserved := g.urgentReserved - 1 }
  | .routine => { g with routine := g.routine ++ [r], routineReserved := g.routineReserved - 1 }

theorem State.recordTaken_of_request {s : State} {r : RingId} {l : LineId} {side : QueueSide}
    (h : ringTarget r = some (l, side)) (data : List Byte) :
    s.recordTaken r data = (s.indexMoved r).setLine l { s.line l with
      engine := (s.line l).engine.queued side (Request.ofBytes (exactly 48 data)) } := by
  unfold State.recordTaken
  simp only [h]
  cases side <;> rfl

theorem State.recordTaken_of_supply {s : State} {r : RingId} (h : ringTarget r = none) (data : List Byte) :
    s.recordTaken r data = (s.indexMoved r).supplyTaken (SupplyRecord.ofBytes (exactly 16 data)) := by
  unfold State.recordTaken
  simp only [h]
  rfl

/-- A supply record taken joins the cache, or is returned CANCELLED or BAD_BUFFER (R127, R138). -/
theorem State.supplyTaken_cases (s : State) (b : SupplyRecord) :
    (b.qualifies = true ∧ s.device ≠ .stopping ∧
        s.supplyTaken b = { s with cacheReserved := s.cacheReserved - 1, cache := s.cache ++ [b] }) ∨
      (b.qualifies = true ∧ s.device = .stopping ∧
        s.supplyTaken b = { s with
          cacheReserved := s.cacheReserved - 1, serviceOwed := s.serviceOwed ++ [returnedRecord .cancelled b.id] }) ∨
      (b.qualifies = false ∧
        s.supplyTaken b = { s with serviceOwed := s.serviceOwed ++ [returnedRecord .badBuffer b.id] }) := by
  unfold State.supplyTaken
  split
  · next hgood =>
    dsimp only
    split
    · next hd => exact .inr (.inl ⟨hgood, hd, rfl⟩)
    · next hd => exact .inl ⟨hgood, hd, rfl⟩
  · next hbad => exact .inr (.inr ⟨by simpa using hbad, rfl⟩)

/-- Releasing a place changes one line's engine or the cache's count (R146). -/
theorem State.release_cases (s : State) (r : RingId) :
    (∃ l side, ringTarget r = some (l, side) ∧
        s.release r = s.setLine l { s.line l with
          engine := (s.line l).engine.setReserved side ((s.line l).engine.reserved side - 1) }) ∨
      (ringTarget r = none ∧ s.release r = { s with cacheReserved := s.cacheReserved - 1 }) := by
  unfold State.release
  split
  · next l side h => exact .inl ⟨l, side, h, rfl⟩
  · next h => exact .inr ⟨h, rfl⟩

/-! ## The values that only their commands change -/

/-- The registers and the loaded configuration are the same, and no cause is cleared. -/
structure State.SameValues (s u : State) : Prop where
  pending : u.pending = s.pending
  base : u.configBaseLo = s.configBaseLo ∧ u.configBaseHi = s.configBaseHi ∧ u.intEnable = s.intEnable
  loaded : u.loaded = s.loaded
  causes : u.intStatus &&& s.intStatus = s.intStatus

theorem State.Follows.sameValues {s t : State} (h : s.Follows t) : s.SameValues t := by
  obtain ⟨h1, h2, h3, h4, h5, -⟩ := h.leaves
  exact ⟨h1, ⟨h3, h4, h5⟩, h2, h.causes⟩

theorem State.SameValues.trans {s u t : State} (h : s.SameValues u) (h' : u.SameValues t) : s.SameValues t where
  pending := h'.pending.trans h.pending
  base := ⟨h'.base.1.trans h.base.1, h'.base.2.1.trans h.base.2.1, h'.base.2.2.trans h.base.2.2⟩
  loaded := h'.loaded.trans h.loaded
  causes := causes_trans h.causes h'.causes

/-- Changes outside the registers. -/
theorem State.SameValues.of_eq {s u : State} (hpending : u.pending = s.pending) (hlo : u.configBaseLo = s.configBaseLo)
    (hhi : u.configBaseHi = s.configBaseHi) (henable : u.intEnable = s.intEnable) (hloaded : u.loaded = s.loaded)
    (hstatus : u.intStatus = s.intStatus) : s.SameValues u :=
  ⟨hpending, ⟨hlo, hhi, henable⟩, hloaded, by rw [hstatus]; exact BitVec.and_self⟩

theorem State.recordTaken_sameValues (s : State) (r : RingId) (data : List Byte) : s.SameValues (s.recordTaken r data) := by
  cases hr : ringTarget r with
  | some target =>
    obtain ⟨l, side⟩ := target
    rw [State.recordTaken_of_request hr]
    exact .of_eq rfl rfl rfl rfl rfl rfl
  | none =>
    rw [State.recordTaken_of_supply hr]
    obtain ⟨-, -, h⟩ | ⟨-, -, h⟩ | ⟨-, h⟩ := (s.indexMoved r).supplyTaken_cases (SupplyRecord.ofBytes (exactly 16 data)) <;>
      rw [h] <;> exact .of_eq rfl rfl rfl rfl rfl rfl

theorem State.release_sameValues (s : State) (r : RingId) : s.SameValues (s.release r) := by
  obtain ⟨l, side, -, h⟩ | ⟨-, h⟩ := s.release_cases r <;> rw [h] <;> exact .of_eq rfl rfl rfl rfl rfl rfl

theorem State.announceDue_sameValues (s : State) : s.SameValues s.announceDue := by
  unfold State.announceDue
  split
  · exact ⟨rfl, ⟨rfl, rfl, rfl⟩, rfl, causes_or _ _⟩
  · exact .of_eq rfl rfl rfl rfl rfl rfl

section
variable {s u t : State} {c : Instr}

/-- Apart from the commands that set them, an effect leaves the registers and the loaded configuration and clears no
cause. -/
theorem State.Effect.sameValues (h : s.Effect c u) :
    s.SameValues u ∨ u.pending = s.pending ∧
      ((∃ offset size value, c = .registerWrite offset size value) ∧ u.loaded = s.loaded ∨
        (∃ value, c = .intStatusWrite value) ∧ u.configBaseLo = s.configBaseLo ∧ u.configBaseHi = s.configBaseHi ∧
          u.intEnable = s.intEnable ∧ u.loaded = s.loaded ∨
        c = .reset ∧ u.configBaseLo = s.configBaseLo ∧ u.configBaseHi = s.configBaseHi ∧ u.intEnable = s.intEnable ∧
          u.loaded = s.loaded ∨
        (∃ read, c = .configReadDone read) ∧ u.configBaseLo = s.configBaseLo ∧ u.configBaseHi = s.configBaseHi ∧
          u.intEnable = s.intEnable ∧ u.intStatus &&& s.intStatus = s.intStatus ∨ c = .powerOn) := by
  cases h with
  | window u hn hu hregisters hcauses =>
    by_cases hr : ∃ offset size value, c = .registerWrite offset size value
    · exact .inr ⟨by rw [hu], .inl ⟨hr, by rw [hu]⟩⟩
    · have hr : ∀ offset size value, c ≠ .registerWrite offset size value := fun o z v hc => hr ⟨o, z, v, hc⟩
      obtain ⟨hlo, hhi, henable⟩ := hregisters hr
      by_cases hi : ∃ value, c = .intStatusWrite value
      · exact .inr ⟨by rw [hu], .inr (.inl ⟨hi, hlo, hhi, henable, by rw [hu]⟩)⟩
      · exact .inl ⟨by rw [hu], ⟨hlo, hhi, henable⟩, by rw [hu], hcauses hr (fun v hc => hi ⟨v, hc⟩)⟩
  | powerOn hc => exact .inr ⟨rfl, by simp [hc]⟩
  | reset hn hacts =>
    obtain hreset | ⟨-, hwrite⟩ := hacts
    · exact .inr ⟨rfl, .inr (.inr (.inl ⟨hreset, rfl, rfl, rfl, rfl⟩))⟩
    · exact .inr ⟨rfl, .inl ⟨hwrite, rfl⟩⟩
  | loadBegins hn hd =>
    rw [State.startCommand_of_halted hd]
    exact .inl (.of_eq rfl rfl rfl rfl rfl rfl)
  | loadAbandoned hn hd => exact .inl ⟨rfl, ⟨rfl, rfl, rfl⟩, rfl, causes_or _ _⟩
  | loadFailed code i hn hd => exact .inl ⟨rfl, ⟨rfl, rfl, rfl⟩, rfl, causes_or _ _⟩
  | started cfg hn hd hread hgood =>
    exact .inr ⟨rfl, .inr (.inr (.inr (.inl ⟨hread, rfl, rfl, rfl, causes_or _ _⟩)))⟩
  | fetched r tail u hn hd hu =>
    exact .inl (State.SameValues.trans (u := s.setRing r _) (.of_eq rfl rfl rfl rfl rfl rfl) (State.fetchBegin_follows hu).sameValues)
  | announced hn => exact .inl ⟨rfl, ⟨rfl, rfl, rfl⟩, rfl, causes_or _ _⟩
  | taken r data hc hf => exact .inl (s.recordTaken_sameValues r data)
  | readFailed r hn hf => exact .inl ((s.release_sameValues r).trans (.of_eq rfl rfl rfl rfl rfl rfl))
  | written hc hserving hwrite =>
    exact .inl (State.SameValues.trans (u := s.countWritten) (.of_eq rfl rfl rfl rfl rfl rfl)
      s.countWritten.announceDue_sameValues)
  | faulted hc hserving hwrite => exact .inl ⟨rfl, ⟨rfl, rfl, rfl⟩, rfl, causes_or _ _⟩
  | _ => exact .inl (.of_eq rfl rfl rfl rfl rfl rfl)

theorem State.After.pending (h : s.After c t) : t.pending = s.pending := by
  obtain ⟨u, heffect, hfollows⟩ := h
  have hu : u.pending = s.pending := by
    obtain hsame | ⟨hpending, -⟩ := heffect.sameValues
    · exact hsame.pending
    · exact hpending
  obtain rfl | rfl := hfollows
  · exact hu
  · exact (State.settleFrom_follows s u).sameValues.pending.trans hu

end

/-- Settles O3: every command answers a next state, and nothing that makes it touches the queue. -/
theorem everyCommandCompletes : Obligations.EveryCommandCompletes := by
  intro c s
  obtain ⟨t, hexec, hafter⟩ := exec_after c s
  exact ⟨t, hexec, hafter.pending⟩

/-- Settles O4: the effect of a command leaves the values, or the command is one that sets them; and what follows leaves
them. -/
theorem registersChangeOnlyByTheirCommands : Obligations.RegistersChangeOnlyByTheirCommands := by
  intro c s t hpower hexec
  obtain ⟨u, heffect, hfollows⟩ := State.After.of_exec hexec
  have hvalues : u.SameValues t := by
    obtain rfl | rfl := hfollows
    · exact .of_eq rfl rfl rfl rfl rfl rfl
    · exact (State.settleFrom_follows s u).sameValues
  obtain ⟨-, ⟨hlo, hhi, henable⟩, hloaded, hcauses⟩ := hvalues
  rw [hlo, hhi, henable, hloaded]
  have hclears : u.intStatus &&& s.intStatus = s.intStatus → t.intStatus &&& s.intStatus = s.intStatus :=
    fun h => causes_trans h hcauses
  obtain hsame | ⟨-, ⟨⟨offset, size, value, hc⟩, hl⟩ | ⟨⟨value, hc⟩, h1, h2, h3, h4⟩ | ⟨hc, h1, h2, h3, h4⟩ |
    ⟨⟨read, hc⟩, h1, h2, h3, h4⟩ | hc⟩ := heffect.sameValues
  · exact ⟨fun _ => hsame.base, fun _ => hsame.loaded, fun _ _ _ => hclears hsame.causes⟩
  · exact ⟨fun h => absurd hc (h _ _ _), fun _ => hl, fun h => absurd hc (h _ _ _)⟩
  · exact ⟨fun _ => ⟨h1, h2, h3⟩, fun _ => h4, fun _ h => absurd hc (h _)⟩
  · exact ⟨fun _ => ⟨h1, h2, h3⟩, fun _ => h4, fun _ _ h => absurd hc h⟩
  · exact ⟨fun _ => ⟨h1, h2, h3⟩, fun h => absurd hc (h _), fun _ _ _ => hclears h4⟩
  · exact absurd hc hpower

/-! ## Power-on, RESET and discarded accesses -/

/-- Settles O20. -/
theorem powerOnAndResetEmptyThePart : Obligations.PowerOnAndResetEmptyThePart := by
  intro s
  refine ⟨rfl, s.resetPart, rfl, rfl, fun l => ?_⟩
  have hline : s.resetPart.line l = (s.line l).resetLine := s.line_mapLines Line.resetLine l
  have hentry : ∀ n, (s.resetPart.line l).entry n = ((s.line l).entry n).clear := fun n => by
    rw [hline]
    simp [Line.entry, Line.resetLine, Vector.get_eq_getElem]
  refine ⟨?_, ?_, ?_, ?_, ?_, hentry⟩ <;> rw [hline] <;> rfl

/-- Settles O23. -/
theorem discardedAccessesChangeNothingElse : Obligations.DiscardedAccessesChangeNothingElse := by
  intro s l
  exact ⟨rfl, rfl, rfl, rfl, rfl, rfl, rfl, rfl⟩

end Sys2Proof.Machine
end

section
/-! PROOFS. Happenings whose meaning is a condition and one update: the writes of INT_STATUS and COMPL_CONSUMED, the timers,
and what happens on a wire (R4, R10, R11, R25, R31, R60, R84, R152, R154, R155). -/

namespace Sys2Proof.Machine

/-! ## Writes to the window -/

/-- Settles O27: a bit stays set where it was set and is not written as 1. -/
theorem intStatusWriteClears : Obligations.IntStatusWriteClears := by
  intro s value
  refine ⟨s.statusWrite value, rfl, rfl, fun i hi => ?_⟩
  simp [State.statusWrite, causeBits, hi]

/-- Settles O26, a branch of R152 at a time. -/
theorem complConsumedAdvances : Obligations.ComplConsumedAdvances := by
  intro s value
  have hindex : BitVec.ofNat 10 (value.extractLsb' 0 10).toNat = consumedIndex value := by
    rw [BitVec.ofNat_toNat, BitVec.setWidth_eq]; rfl
  simp only [exec_complConsumed, State.consumedWrite, hindex]
  refine ⟨fun hstill => ?_, fun hserving href => ?_, fun hserving hlt hzero => ?_, fun hserving hlt hmove hle => ?_⟩
  · rw [if_neg hstill]
  · rw [if_pos hserving]
    obtain hbig | hpast := href
    · rw [if_pos (show s.complSize ≤ (consumedIndex value).toNat from hbig)]; rfl
    · split
      · rfl
      · rw [if_pos (show s.outstandingCompletions < s.advanceTo (consumedIndex value).toNat from hpast)]; rfl
  · rw [if_pos hserving, if_neg (show ¬ s.complSize ≤ (consumedIndex value).toNat from Nat.not_le.mpr hlt)]
    have hadvance : s.advanceTo (consumedIndex value).toNat = 0 := hzero
    rw [hadvance, if_neg (Nat.not_lt_zero _), if_pos rfl]
  · rw [if_pos hserving, if_neg (show ¬ s.complSize ≤ (consumedIndex value).toNat from Nat.not_le.mpr hlt),
      if_neg (show ¬ s.outstandingCompletions < s.advanceTo (consumedIndex value).toNat from Nat.not_lt.mpr hle),
      if_neg (show ¬ s.advanceTo (consumedIndex value).toNat = 0 from hmove)]
    rfl

/-! ## Timers -/

theorem LineConfig.pollTimer_eq (cfg : LineConfig) : cfg.pollTimer = some (10000 * cfg.pollPeriod) := by
  simp [LineConfig.pollTimer, startMs]
  omega

/-- Settles O30. -/
theorem settleAndCooldownExpiry : Obligations.SettleAndCooldownExpiry := by
  intro s l
  simp only [exec_settleTimerExpiry, exec_cooldownTimerExpiry, State.serving_iff, ← LineConfig.pollTimer_eq]
  refine ⟨fun hserving hsettling hbusy => ?_, fun hserving hsettling hidle => ?_, fun hno => ?_,
    fun hserving hcool => ?_, fun hno => ?_⟩
  · rw [if_pos ⟨hserving, hsettling⟩]; exact congrArg _ (State.wake_of_not_idle s l ((s.line l).comeUp _) hbusy)
  · rw [if_pos ⟨hserving, hsettling⟩]; exact congrArg _ (State.wake_of_idle s l ((s.line l).comeUp _) hidle)
  · rw [if_neg hno]
  · rw [if_pos ⟨hserving, hcool⟩]; rfl
  · rw [if_neg hno]

/-- Settles O33. -/
theorem pollExpiryMarksARound : Obligations.PollExpiryMarksARound := by
  intro s l
  simp only [exec_pollTimerExpiry, State.serving_iff, ← LineConfig.pollTimer_eq]
  refine ⟨fun hruns hbusy => ?_, fun hruns hidle => ?_, fun hno => ?_⟩
  · rw [if_pos hruns]; exact congrArg _ (State.wake_of_not_idle s l ((s.line l).pollDue _) hbusy)
  · rw [if_pos hruns]; exact congrArg _ (State.wake_of_idle s l ((s.line l).pollDue _) hidle)
  · rw [if_neg hno]

/-- Settles O34. -/
theorem backoffExpiryFreesTheHead : Obligations.BackoffExpiryFreesTheHead := by
  intro s l hserving
  simp only [exec_busyBackoffExpiry, State.serving_iff, if_pos hserving, Line.backoffOver]
  refine ⟨fun hruns => ?_, fun hnone => ?_, fun t ht hruns => ?_, fun hnone => ?_⟩
  · rw [if_pos hruns]; rfl
  · rw [if_neg (by simp [hnone])]; rfl
  · simp only [ht, if_pos hruns]; rfl
  · cases ht : (s.line l).engine.transfer with
    | none => rfl
    | some t =>
      have hstopped : t.deadline = none := hnone t ht
      simp [hstopped]

/-- Settles O35. -/
theorem holdoffExpiryAnnounces : Obligations.HoldoffExpiryAnnounces := by
  intro s
  rw [exec_holdoffExpiry]
  refine ⟨fun hruns hsome => ?_, fun hruns hzero => ?_, fun hnone => ?_⟩
  · rw [if_pos hruns, if_pos hsome]; rfl
  · rw [if_pos hruns, if_neg (by omega)]
  · rw [if_neg (by simp [hnone])]

/-! ## The wire -/

/-- Settles O36. -/
theorem frameSentAndStartBit : Obligations.FrameSentAndStartBit := by
  intro s l
  simp only [exec_frameSent, exec_nodeStartBit]
  refine ⟨fun h => ?_, fun h => ?_, fun h => ?_, fun h => ?_⟩
  · rw [if_pos h]; rfl
  · rw [if_neg h]
  · rw [if_pos h]; rfl
  · rw [if_neg h]

/-- An attempt that ended SILENT or GARBLED with attempts left is repeated (R11). -/
theorem Line.attemptFailed_of_left {ln : Line} {x : LineCtx} (h : ln.xcvr.attempts < 1 + x.cfg.retryLimit)
    (garbled : Bool) : ln.attemptFailed x garbled =
      { ln with xcvr := ln.xcvr.resend (if garbled then ln.xcvr.garbled + 1 else ln.xcvr.garbled) } :=
  if_pos h

/-- The last attempt that ends SILENT or GARBLED ends the exchange FAILED (R11). -/
theorem Line.attemptFailed_of_last {ln : Line} {x : LineCtx} (h : 1 + x.cfg.retryLimit ≤ ln.xcvr.attempts)
    (garbled : Bool) : ln.attemptFailed x garbled = ln.exchangeEnd x
      { reply := none, attempts := ln.xcvr.attempts,
        garbled := if garbled then ln.xcvr.garbled + 1 else ln.xcvr.garbled } :=
  if_neg (Nat.not_lt.mpr h)

theorem Line.replyEnded_of_none {ln : Line} {x : LineCtx} {f : Frame} {rx : List RxByte} (hf : ln.xcvr.frame = some f)
    (hjudge : judge f rx = none) : ln.replyEnded x rx = ln.attemptFailed x true := by
  simp [Line.replyEnded, hf, hjudge]

theorem Line.replyEnded_of_valid {ln : Line} {x : LineCtx} {f : Frame} {rx : List RxByte} {r : Reply}
    (hf : ln.xcvr.frame = some f) (hjudge : judge f rx = some r) : ln.replyEnded x rx =
      ln.exchangeEnd x { reply := some r, attempts := ln.xcvr.attempts, garbled := ln.xcvr.garbled } := by
  simp [Line.replyEnded, hf, hjudge]

/-- Settles O37: with a frame on the wire the engine is EXCHANGING, so nothing follows the repeat. -/
theorem failedAttemptIsRepeated : Obligations.FailedAttemptIsRepeated := by
  intro s l hsound hleft
  have hexchanging : (s.line l).xcvr.state ≠ .idle → (s.line l).engine.state = .exchanging :=
    fun hbusy => (hsound.wire l hbusy).2.1
  have hrepeat : ∀ garbled : Bool, (s.line l).xcvr.state ≠ .idle →
      s.finish l ((s.line l).attemptFailed (s.ctx l) garbled) = s.setLine l { s.line l with
        xcvr := (s.line l).xcvr.resend (if garbled then (s.line l).xcvr.garbled + 1 else (s.line l).xcvr.garbled) } := by
    intro garbled hbusy
    rw [Line.attemptFailed_of_left hleft]
    exact State.finish_of_exchanging _ _ _ (hexchanging hbusy)
  simp only [exec_replyWindowClose, exec_replyOverrun, exec_endOfReply]
  refine ⟨fun hst => ?_, fun hst => ?_, fun rx f hst hf hjudge => ?_⟩
  · rw [if_pos hst, hrepeat false (by simp [hst])]; rfl
  · rw [if_pos hst, hrepeat true (by simp [hst])]; rfl
  · rw [if_pos hst, Line.replyEnded_of_none hf hjudge, hrepeat true (by simp [hst])]; rfl

/-- Settles O38. -/
theorem exchangeEndsAtTheLimitOrValid : Obligations.ExchangeEndsAtTheLimitOrValid := by
  intro s l
  simp only [exec_replyWindowClose, exec_replyOverrun, exec_endOfReply]
  refine ⟨fun hst hlast => ?_, fun hst hlast => ⟨?_, fun rx f hf hjudge => ?_⟩, fun rx f r hst hf hjudge => ?_,
    fun hst => ?_, fun hst => ⟨?_, fun rx => ?_⟩⟩
  · rw [if_pos hst, Line.attemptFailed_of_last hlast]; rfl
  · rw [if_pos hst, Line.attemptFailed_of_last hlast]; rfl
  · rw [if_pos hst, Line.replyEnded_of_none hf hjudge, Line.attemptFailed_of_last hlast]; rfl
  · rw [if_pos hst, Line.replyEnded_of_valid hf hjudge]; rfl
  · rw [if_neg hst]
  · rw [if_neg hst]
  · rw [if_neg hst]

end Sys2Proof.Machine
end

section
/-! PROOFS. The register window: POST and the fetch it begins, what STATUS shows, and writes and reads by offset and width
(R142, R143, R157, R171). -/

namespace Sys2Proof.Machine

/-! ## The fetch that begins -/

/-- Reserving a place leaves everything but the places (R143). -/
theorem State.reserve_leaves (s : State) (r : RingId) :
    (s.reserve r).fetcher = s.fetcher ∧ (s.reserve r).rings = s.rings ∧ (s.reserve r).intStatus = s.intStatus ∧
      (s.reserve r).device = s.device ∧ (s.reserve r).cache = s.cache ∧ (s.reserve r).writer = s.writer ∧
      (s.reserve r).serviceSlot = s.serviceSlot ∧ (s.reserve r).serviceOwed = s.serviceOwed ∧
      (s.reserve r).loader = s.loader ∧ (s.reserve r).loaded = s.loaded := by
  obtain ⟨l, side, -, h⟩ | ⟨-, h⟩ := s.reserve_cases r <;> simp [h]

/-- Beginning a fetch changes the fetcher and the reserved places alone (R143). -/
theorem State.fetchBegin_leaves {s t : State} (h : s.fetchBegin = some t) :
    t.rings = s.rings ∧ t.intStatus = s.intStatus ∧ t.device = s.device ∧ t.cache = s.cache ∧ t.writer = s.writer ∧
      t.serviceSlot = s.serviceSlot ∧ t.serviceOwed = s.serviceOwed ∧ t.loader = s.loader ∧ t.loaded = s.loaded := by
  obtain ⟨-, r, -, rfl⟩ := State.fetchBegin_cases h
  exact (State.reserve_leaves _ r).2

/-- The first eligible ring after the pointer is the one fetched from (R143). -/
theorem State.fetchBegin_of_first {s : State} (hfree : s.fetcher.fetch = none) {k : Nat} (hk : k < 9)
    (hbefore : ∀ j, j < k → s.eligible ⟨(s.fetcher.pointer.val + 1 + j) % 9, Nat.mod_lt _ (by decide)⟩ = false)
    (hfirst : s.eligible ⟨(s.fetcher.pointer.val + 1 + k) % 9, Nat.mod_lt _ (by decide)⟩ = true) :
    s.fetchBegin = some (State.reserve { s with
      fetcher := { pointer := ⟨(s.fetcher.pointer.val + 1 + k) % 9, Nat.mod_lt _ (by decide)⟩,
                   fetch := some { ring := ⟨(s.fetcher.pointer.val + 1 + k) % 9, Nat.mod_lt _ (by decide)⟩,
                                   phase := .read } } } ⟨(s.fetcher.pointer.val + 1 + k) % 9, Nat.mod_lt _ (by decide)⟩) := by
  have hfind : (List.range 9).find? (s.eligible ∘ fun i =>
      (⟨(s.fetcher.pointer.val + 1 + i) % 9, Nat.mod_lt _ (by decide)⟩ : RingId)) = some k := by
    rw [List.find?_range_eq_some]
    exact ⟨hfirst, List.mem_range.mpr hk, fun j hj => by simp [hbefore j hj]⟩
  unfold State.fetchBegin ringsAfter
  rw [if_neg (by simp [hfree]), List.find?_map, hfind]
  rfl

/-- No fetch begins while one is in progress, or where no ring is eligible (R143). -/
theorem State.fetchBegin_of_busy {s : State} (h : s.fetcher.fetch.isSome) : s.fetchBegin = none := if_pos h

theorem State.fetchBegin_of_none {s : State} (h : ∀ q, s.eligible q = false) : s.fetchBegin = none := by
  have hnone : (ringsAfter s.fetcher.pointer).find? s.eligible = none := by simp [h]
  simp [State.fetchBegin, hnone]

/-! ## Reserved places -/

theorem ringTarget_eq_none_iff (r : RingId) : ringTarget r = none ↔ r = supplyRing := by
  revert r; decide

@[simp] theorem Engine.reserved_setReserved (g : Engine) (side side' : QueueSide) (n : Nat) :
    (g.setReserved side n).reserved side' = if side' = side then n else g.reserved side' := by
  cases side <;> cases side' <;> rfl

/-- One more place is reserved in the ring's destination, and in no other (R143). -/
theorem State.reserve_reserved (s : State) (r : RingId) (l : LineId) (side : QueueSide) :
    ((s.reserve r).line l).engine.reserved side =
      (s.line l).engine.reserved side + (if ringTarget r = some (l, side) then 1 else 0) := by
  obtain ⟨m, side', hr, h⟩ | ⟨hr, h⟩ := s.reserve_cases r
  · rw [h, hr, State.line_setLine]
    by_cases hm : l = m
    · subst hm
      by_cases hside : side = side'
      · subst hside; simp
      · simp [hside, Ne.symm hside]
    · simp [hm, Ne.symm hm]
  · rw [h, hr]; simp; rfl

theorem State.reserve_cacheReserved (s : State) (r : RingId) :
    (s.reserve r).cacheReserved = s.cacheReserved + (if r = supplyRing then 1 else 0) := by
  obtain ⟨m, side', hr, h⟩ | ⟨hr, h⟩ := s.reserve_cases r
  · have hne : r ≠ supplyRing := fun he => by rw [(ringTarget_eq_none_iff r).mpr he] at hr; cases hr
    simp [h, hne]
  · rw [h, if_pos ((ringTarget_eq_none_iff r).mp hr)]

/-- One place is given up in the ring's destination, and in no other (R146). -/
theorem State.release_reserved (s : State) (r : RingId) (l : LineId) (side : QueueSide) :
    ((s.release r).line l).engine.reserved side =
      (s.line l).engine.reserved side - (if ringTarget r = some (l, side) then 1 else 0) := by
  obtain ⟨m, side', hr, h⟩ | ⟨hr, h⟩ := s.release_cases r
  · rw [h, hr, State.line_setLine]
    by_cases hm : l = m
    · subst hm
      by_cases hside : side = side'
      · subst hside; simp
      · simp [hside, Ne.symm hside]
    · simp [hm, Ne.symm hm]
  · rw [h, hr]; simp; rfl

theorem State.release_cacheReserved (s : State) (r : RingId) :
    (s.release r).cacheReserved = s.cacheReserved - (if r = supplyRing then 1 else 0) := by
  obtain ⟨m, side', hr, h⟩ | ⟨hr, h⟩ := s.release_cases r
  · have hne : r ≠ supplyRing := fun he => by rw [(ringTarget_eq_none_iff r).mpr he] at hr; cases hr
    simp [h, hne]
  · rw [h, if_pos ((ringTarget_eq_none_iff r).mp hr)]

/-! ## POST -/

/-- A post that is taken replaces the ring's tail, and the fetcher looks again (R142, R143). -/
theorem State.postWrite_of_taken {s : State} {value : Word} {r : RingId} (hr : postRing value = r.val)
    (hd : s.device = .running) (htail : postTail value < s.ringSize r)
    (hle : s.outstanding r ≤ s.outstandingTo r (postTail value)) :
    s.postWrite value = (s.setRing r { s.ring r with tail := postTail value }).fetchBegin.getD
      (s.setRing r { s.ring r with tail := postTail value }) := by
  have hlt : postRing value < 9 := by rw [hr]; exact r.isLt
  obtain rfl : r = ⟨postRing value, hlt⟩ := Fin.ext hr.symm
  have htaken : s.postTaken (postRing value) (postTail value) = true := by
    simp [State.postTaken, hlt, hd, htail, hle]
  unfold State.postWrite
  rw [dif_pos hlt]
  dsimp only
  rw [if_pos htaken]

/-- A post that is not taken is ignored with post_error (R142). -/
theorem State.postWrite_of_refused {s : State} {value : Word}
    (h : ∀ r : RingId, postRing value = r.val → s.device = .running → postTail value < s.ringSize r →
      s.outstandingTo r (postTail value) < s.outstanding r) : s.postWrite value = s.raise causePostError := by
  unfold State.postWrite
  split
  · next hlt =>
    have hrefused : ¬ s.postTaken (postRing value) (postTail value) = true := by
      intro htaken
      simp only [State.postTaken, hlt, dif_pos, Bool.and_eq_true, beq_iff_eq, decide_eq_true_eq] at htaken
      obtain ⟨⟨hd, htail⟩, hle⟩ := htaken
      have := h ⟨postRing value, hlt⟩ rfl hd htail
      omega
    dsimp only
    rw [if_neg hrefused]
  · rfl

/-- Settles O24. -/
theorem postReplacesTheTail : Obligations.PostReplacesTheTail := by
  intro s value
  refine ⟨fun r hr hd htail hle => ⟨_, rfl, ?_⟩, fun hrefused => ?_⟩
  · rw [State.postWrite_of_taken hr hd htail hle]
    generalize hs' : s.setRing r { s.ring r with tail := postTail value } = s'
    have hkept : (s'.fetchBegin.getD s').rings = s'.rings ∧ (s'.fetchBegin.getD s').intStatus = s'.intStatus := by
      cases hf : s'.fetchBegin with
      | none => exact ⟨rfl, rfl⟩
      | some t =>
        obtain ⟨hrings, hstatus, -⟩ := State.fetchBegin_leaves hf
        exact ⟨hrings, hstatus⟩
    have hring : ∀ q, (s'.fetchBegin.getD s').ring q = s'.ring q := fun q => by simp [State.ring, hkept.1]
    refine ⟨?_, fun q hq => ?_, ?_⟩
    · rw [hring, ← hs', State.ring_setRing, if_pos rfl]; rfl
    · rw [hring, ← hs', State.ring_setRing, if_neg hq]
    · rw [hkept.2, ← hs']; rfl
  · exact congrArg _ (State.postWrite_of_refused hrefused)

/-- Settles O25: the fetcher looks at the rings from the one after its pointer. -/
theorem postStartsTheNextFetch : Obligations.PostStartsTheNextFetch := by
  intro s value r hr hd htail hle s'
  have hnext : exec (.post value) s = .next (s'.fetchBegin.getD s') :=
    congrArg _ (State.postWrite_of_taken hr hd htail hle)
  refine ⟨fun hbusy => ?_, fun hnone => ?_, fun hfree k hk hbefore hfirst => ?_⟩
  · rw [hnext, State.fetchBegin_of_busy (s := s') hbusy]; rfl
  · rw [hnext, State.fetchBegin_of_none hnone]; rfl
  · rw [hnext, State.fetchBegin_of_first (s := s') hfree hk hbefore hfirst, Option.getD_some]
    refine ⟨_, rfl, ?_, ?_, fun l side => ?_, ?_⟩
    · exact (State.reserve_leaves _ _).1
    · exact (State.reserve_leaves _ _).2.1
    · rw [State.reserve_reserved]; rfl
    · rw [State.reserve_cacheReserved]; rfl

/-! ## STATUS -/

theorem DeviceState.number_le (d : DeviceState) : d.number ≤ 4 := by cases d <;> decide

theorem ErrorCode.number_le (e : ErrorCode) : e.number ≤ 4 := by cases e <;> decide

/-- The broken-ring mask, bit by bit (R146). -/
theorem State.brokenMask_eq (s : State) : s.brokenMask =
    (s.ring 0).broken.toNat + 2 * (s.ring 1).broken.toNat + 4 * (s.ring 2).broken.toNat +
      8 * (s.ring 3).broken.toNat + 16 * (s.ring 4).broken.toNat + 32 * (s.ring 5).broken.toNat +
      64 * (s.ring 6).broken.toNat + 128 * (s.ring 7).broken.toNat + 256 * (s.ring 8).broken.toNat := by
  have hrings : s.rings = Vector.ofFn s.ring := by
    ext i hi : 1
    simp [State.ring, Vector.get_eq_getElem]
  unfold State.brokenMask
  rw [hrings]
  simp [Vector.toList_ofFn, List.ofFn_succ]
  omega

theorem State.brokenMask_lt (s : State) : s.brokenMask < 512 := by
  have hbit : ∀ b : Bool, b.toNat ≤ 1 := fun b => b.toNat_le
  have h := s.brokenMask_eq
  have h0 := hbit (s.ring 0).broken
  have h1 := hbit (s.ring 1).broken
  have h2 := hbit (s.ring 2).broken
  have h3 := hbit (s.ring 3).broken
  have h4 := hbit (s.ring 4).broken
  have h5 := hbit (s.ring 5).broken
  have h6 := hbit (s.ring 6).broken
  have h7 := hbit (s.ring 7).broken
  have h8 := hbit (s.ring 8).broken
  omega

theorem State.brokenMask_testBit (s : State) (r : RingId) : s.brokenMask / 2 ^ r.val % 2 = (s.ring r).broken.toNat := by
  have hbits : ∀ b0 b1 b2 b3 b4 b5 b6 b7 b8 : Nat, b0 ≤ 1 → b1 ≤ 1 → b2 ≤ 1 → b3 ≤ 1 → b4 ≤ 1 → b5 ≤ 1 → b6 ≤ 1 →
      b7 ≤ 1 → b8 ≤ 1 →
      (b0 + 2 * b1 + 4 * b2 + 8 * b3 + 16 * b4 + 32 * b5 + 64 * b6 + 128 * b7 + 256 * b8) / 2 ^ r.val % 2 =
        [b0, b1, b2, b3, b4, b5, b6, b7, b8].getD r.val 0 := by
    intros
    fin_cases r <;> simp <;> omega
  rw [s.brokenMask_eq, hbits _ _ _ _ _ _ _ _ _ (Bool.toNat_le _) (Bool.toNat_le _) (Bool.toNat_le _) (Bool.toNat_le _)
    (Bool.toNat_le _) (Bool.toNat_le _) (Bool.toNat_le _) (Bool.toNat_le _) (Bool.toNat_le _)]
  fin_cases r <;> rfl

/-- STATUS as a number: no field overflows into the next. -/
theorem State.status_toNat (s : State) : s.status.toNat =
    s.device.number + 16 * s.error.number + 128 * s.backpressure.toNat + 256 * s.errorField.toNat +
      65536 * s.brokenMask := by
  have hd := s.device.number_le
  have he := s.error.number_le
  have hb := s.backpressure.toNat_le
  have hf := s.errorField.isLt
  have hm := s.brokenMask_lt
  unfold State.status
  rw [BitVec.toNat_ofNat, Nat.mod_eq_of_lt (by omega)]

/-- Settles O29: each field of STATUS is read off the number it is made of. -/
theorem statusShowsTheDevice : Obligations.StatusShowsTheDevice := by
  intro s
  have hd := s.device.number_le
  have he := s.error.number_le
  have hb := s.backpressure.toNat_le
  have hf := s.errorField.isLt
  have hm := s.brokenMask_lt
  have hfield : ∀ i n, (s.status.extractLsb' i n).toNat = s.status.toNat / 2 ^ i % 2 ^ n := fun i n => by
    simp [Nat.shiftRight_eq_div_pow]
  have hbit : ∀ i, s.status.getLsbD i = decide (s.status.toNat / 2 ^ i % 2 = 1) := fun i => by
    rw [BitVec.getLsbD, Nat.testBit_eq_decide_div_mod_eq]
  have hback : s.status.getLsbD 7 = s.backpressure := by
    have hvalue : s.status.toNat / 2 ^ 7 % 2 = s.backpressure.toNat := by rw [s.status_toNat]; omega
    rw [hbit, hvalue]
    cases s.backpressure <;> rfl
  refine ⟨s.status, rfl, ?_, ?_, ?_, fun c hc => ?_, fun hnone => ?_, ?_, fun r => ?_, ?_⟩
  · have hvalue : (s.status.extractLsb' 0 3).toNat = s.device.number := by rw [hfield, s.status_toNat]; omega
    apply BitVec.eq_of_toNat_eq
    rw [hvalue]
    cases s.device <;> rfl
  · rw [hbit, s.status_toNat]
    simp only [decide_eq_false_iff_not]
    omega
  · have hvalue : (s.status.extractLsb' 4 3).toNat = s.error.number := by rw [hfield, s.status_toNat]; omega
    apply BitVec.eq_of_toNat_eq
    rw [hvalue]
    cases s.error <;> rfl
  · rw [hback]
    simp only [State.backpressure, hc, State.complSize, State.descriptorSize, State.outstandingCompletions,
      RingConfig.size, Option.isSome_some, Bool.true_and, beq_iff_eq]
  · rw [hback, State.backpressure, hnone]; rfl
  · apply BitVec.eq_of_toNat_eq
    rw [hfield, s.status_toNat]
    omega
  · have hvalue : s.status.toNat / 2 ^ (16 + r.val) % 2 = (s.ring r).broken.toNat := by
      rw [Nat.pow_add, ← Nat.div_div_eq_div_mul, ← s.brokenMask_testBit r]
      have hmask : s.status.toNat / 2 ^ 16 = s.brokenMask := by rw [s.status_toNat]; omega
      rw [hmask]
    rw [hbit, hvalue]
    cases (s.ring r).broken <;> rfl
  · apply BitVec.eq_of_toNat_eq
    rw [hfield, s.status_toNat]
    show _ = 0
    omega

/-! ## Writes and reads by offset and width -/

/-- The bytes of a word from byte `k` on, read in ascending order, hold the word shifted down (11 section 11.5). -/
theorem leNat_wordBytes (w : Word) (k n : Nat) :
    leNat ((List.range n).map (fun i => w.extractLsb' (8 * (k + i)) 8)) = w.toNat / 2 ^ (8 * k) % 2 ^ (8 * n) := by
  induction n generalizing k with
  | zero => simp [leNat, Nat.mod_one]
  | succ n ih =>
    have hnext : (List.range n).map ((fun i => w.extractLsb' (8 * (k + i)) 8) ∘ Nat.succ) =
        (List.range n).map (fun i => w.extractLsb' (8 * (k + 1 + i)) 8) := by
      refine List.map_congr_left fun i _ => ?_
      simp only [Function.comp, Nat.succ_eq_add_one]
      congr 2
      omega
    have hshift : 2 ^ (8 * (k + 1)) = 2 ^ (8 * k) * 256 := by rw [Nat.mul_add, Nat.pow_add]
    have hwidth : 2 ^ (8 * (n + 1)) = 256 * 2 ^ (8 * n) := by rw [Nat.mul_add, Nat.pow_add, Nat.mul_comm]
    rw [List.range_succ_eq_map, List.map_cons, List.map_map, hnext, leNat, ih (k + 1), hshift, hwidth,
      ← Nat.div_div_eq_div_mul, Nat.mod_mul]
    simp [Nat.shiftRight_eq_div_pow]

/-- Bytes of one register are those of its word, none where the register's read is not stated (R171). -/
theorem State.readBytes_within (s : State) (offset n : Nat) (h : offset % 4 + (n + 1) ≤ 4) :
    s.readBytes offset (n + 1) = (s.readWord (offset / 4 * 4)).map
      (fun w => (List.range (n + 1)).map (fun i => w.extractLsb' (8 * (offset % 4 + i)) 8)) := by
  induction n generalizing offset with
  | zero =>
    simp only [State.readBytes, State.readByte]
    cases s.readWord (offset / 4 * 4) <;> simp
  | succ n ih =>
    have hsame : (offset + 1) / 4 = offset / 4 ∧ (offset + 1) % 4 = offset % 4 + 1 := by omega
    rw [State.readBytes, ih (offset + 1) (by omega), State.readByte, hsame.1, hsame.2]
    cases s.readWord (offset / 4 * 4) with
    | none => rfl
    | some w =>
      simp only [Option.map_some, List.range_succ_eq_map (n := n + 1), List.map_cons, List.map_map, Nat.add_zero]
      refine congrArg some (congrArg _ (List.map_congr_left fun i _ => ?_))
      simp only [Function.comp, Nat.succ_eq_add_one]
      congr 2
      omega

/-- A read within one register returns the addressed bytes of its word (R171). -/
theorem State.readWindow_within (s : State) (offset : BitVec 6) (size : AccessSize) (mask : Word)
    (hlow : offset < 0x24#6) (hfits : offset.toNat % 4 + accessBytes size ≤ 4)
    (hmask : mask.toNat = 2 ^ (8 * accessBytes size) - 1) :
    s.readWindow offset size =
      (s.readWord (offset.toNat / 4 * 4)).map (fun (w : Word) => (w >>> (8 * (offset.toNat % 4))) &&& mask) := by
  obtain ⟨n, hn⟩ : ∃ n, accessBytes size = n + 1 := by cases size <;> exact ⟨_, rfl⟩
  have hlow : ¬ 0x24 ≤ offset.toNat := by
    have : offset.toNat < 0x24 := by simpa [BitVec.lt_def] using hlow
    omega
  have haligned : ¬ (size = .word ∧ offset.toNat % 4 ≠ 0) := by
    rintro ⟨rfl, hodd⟩
    simp only [accessBytes] at hfits
    omega
  unfold State.readWindow
  rw [if_neg hlow, if_neg haligned, hn, State.readBytes_within s _ n (by omega), Option.map_map]
  congr 1
  funext w
  apply BitVec.eq_of_toNat_eq
  have hw : w.toNat / 2 ^ (8 * (offset.toNat % 4)) < 2 ^ 32 := lt_of_le_of_lt (Nat.div_le_self _ _) w.isLt
  simp only [Function.comp, leNat_wordBytes, BitVec.toNat_ofNat, BitVec.toNat_and, BitVec.toNat_ushiftRight, hmask, hn,
    Nat.shiftRight_eq_div_pow, Nat.and_two_pow_sub_one_eq_mod]
  exact Nat.mod_eq_of_lt (lt_of_le_of_lt (Nat.mod_le _ _) hw)

/-- Settles O28. -/
theorem registerWriteByOffset : Obligations.RegisterWriteByOffset := by
  intro s value
  have hcommand : (exec (controlCommand value) s) = .next (s.controlWrite value) := by
    unfold controlCommand State.controlWrite
    split
    · rfl
    · split
      · rfl
      · split <;> rfl
  refine ⟨rfl, rfl, rfl, fun offset hignored => ?_, fun offset => ⟨rfl, rfl, rfl⟩, hcommand.symm, rfl, rfl, rfl,
    fun offset => ⟨fun hhigh size => ?_, fun hlow haligned => ?_, fun hlow => ?_, fun hlow hfits => ?_, fun hlow hfits => ?_⟩⟩
  · have hregisters : ∀ o : BitVec 6, o = 0x00#6 ∨ o = 0x08#6 ∨ 0x24#6 ≤ o ∨ o.toNat % 4 ≠ 0 →
        o.toNat ≠ 0x04 ∧ o.toNat ≠ 0x0C ∧ o.toNat ≠ 0x10 ∧ o.toNat ≠ 0x14 ∧ o.toNat ≠ 0x18 ∧ o.toNat ≠ 0x1C ∧
          o.toNat ≠ 0x20 := by decide
    obtain ⟨h1, h2, h3, h4, h5, h6, h7⟩ := hregisters offset hignored
    rw [exec_registerWrite, if_pos rfl]
    unfold State.wordWrite
    split <;> simp_all
  · have hhigh : 0x24 ≤ offset.toNat := by simpa [BitVec.le_def] using hhigh
    exact if_pos hhigh
  · rw [State.readWindow_within s offset .word (BitVec.allOnes 32) hlow (by simp [accessBytes, haligned])
      (by simp [accessBytes]), haligned]
    simp only [Nat.mul_zero, BitVec.ushiftRight_zero, BitVec.and_allOnes, Option.map_id']
  · exact State.readWindow_within s offset .byte 0xFF hlow (by simp only [accessBytes]; omega) rfl
  · exact State.readWindow_within s offset .half 0xFFFF hlow (by simp only [accessBytes]; omega) rfl
  · exact State.readWindow_within s offset .three 0xFFFFFF hlow (by simp only [accessBytes]; omega) rfl

end Sys2Proof.Machine
end

section
/-! PROOFS. From steps to lines: what an effect and a move within a step do to each line, so that an invariant of lines is
proved over a few kinds of change (R75, R76, R86, R150, R166). -/

namespace Sys2Proof.Machine

/-! ## What one move does to a line -/

/-- What a move within a step, or the relabelling of waiting engines, does to a line in the context `x`. -/
inductive Line.Moved (x : LineCtx) (a : Line) : Line → Prop where
  | same : Moved x a a
  | reserved (side : QueueSide) (n : Nat) : Moved x a { a with engine := a.engine.setReserved side n }
  | worked (d : DeviceState) (b : Line) :
      a.engine.state = .idle ∨ a.engine.state = .blocked → Line.Unit x d a b → Moved x a b
  | granted (b : Line) (cache cache' : List SupplyRecord) :
      a.engine.state = .idle ∨ a.engine.state = .blocked → Line.Granted a b cache cache' → Moved x a b
  | emptied : Moved x a { a with engine := { a.engine with slot := none } }
  | unbarred : a.engine.state = .inactive → Moved x a a.clearBarred
  | relabelled : Moved x a a.relabel

section
variable {s t : State}

/-- A line replaced, the others as they were. -/
theorem State.moved_setLine {l : LineId} {ln : Line} (h : Line.Moved (s.ctx l) (s.line l) ln) (m : LineId) :
    Line.Moved (s.ctx m) (s.line m) ((s.setLine l ln).line m) := by
  rw [State.line_setLine]
  split
  · next he => subst he; exact h
  · exact .same

theorem State.fetchBegin_moved (h : s.fetchBegin = some t) (m : LineId) :
    Line.Moved (s.ctx m) (s.line m) (t.line m) := by
  obtain ⟨-, r, -, rfl⟩ := State.fetchBegin_cases h
  obtain ⟨l, side, -, h⟩ | ⟨-, h⟩ :=
    ({ s with fetcher := { pointer := r, fetch := some { ring := r, phase := .read } } } : State).reserve_cases r
  · rw [h]
    exact State.moved_setLine (s := s) (l := l) (.reserved side _) m
  · rw [h]
    exact .same

theorem State.engineMove_moved {l : LineId} (h : s.engineMove l = some t) (m : LineId) :
    Line.Moved (s.ctx m) (s.line m) (t.line m) := by
  obtain ⟨ln, cache, hstep, rfl⟩ := State.engineMove_cases h
  obtain ⟨hstate, ⟨-, d, hunit⟩ | hgrant⟩ := Line.engineStep_unit hstep
  · exact State.moved_setLine (s := s) (l := l) (.worked d ln hstate hunit) m
  · exact State.moved_setLine (s := s) (l := l) (.granted ln _ _ hstate hgrant) m

theorem State.servicePlace_moved (h : s.servicePlace = some t) (m : LineId) :
    Line.Moved (s.ctx m) (s.line m) (t.line m) := by
  obtain ⟨c, rest, -, -, rfl⟩ := State.servicePlace_cases h
  exact .same

theorem State.take_moved {fresh : Bool} (h : s.take fresh = some t) (m : LineId) :
    Line.Moved (s.ctx m) (s.line m) (t.line m) := by
  obtain ⟨-, k, c, n, u, rfl, ⟨l, -, rfl⟩ | ⟨-, rfl⟩⟩ := State.take_source h
  · exact State.moved_setLine (s := s) (l := l) .emptied m
  · exact .same

theorem State.enterHalted_moved (h : s.stopped = true) (m : LineId) :
    Line.Moved (s.ctx m) (s.line m) (s.enterHalted.line m) := by
  have hline : s.enterHalted.line m = (s.line m).clearBarred := by
    rw [State.enterHalted_eq]; exact s.line_mapLines Line.clearBarred m
  rw [hline]
  exact .unbarred ((s.stopped_iff.mp h).2.1 m).1

theorem State.relabel_moved (s : State) (m : LineId) :
    Line.Moved (s.ctx m) (s.line m) ((s.mapLines Line.relabel).line m) := by
  rw [State.line_mapLines]
  exact .relabelled

theorem State.ctx_congr (h : t.loaded = s.loaded) (l : LineId) : t.ctx l = s.ctx l := by
  simp [State.ctx, State.lineConfig, h]

end

/-- What every move keeps of a line, what follows within a step keeps of every line. -/
theorem State.settleFrom_keepsLines {P : LineCtx → Line → Prop} (hmoved : ∀ x a b, P x a → Line.Moved x a b → P x b)
    (before s : State) (h : ∀ l, P (s.ctx l) (s.line l)) (l : LineId) :
    P ((State.settleFrom before s).ctx l) ((State.settleFrom before s).line l) := by
  have hmove : ∀ u t : State, (∀ l, P (u.ctx l) (u.line l)) → u.Follows t →
      (∀ l, Line.Moved (u.ctx l) (u.line l) (t.line l)) → ∀ l, P (t.ctx l) (t.line l) := by
    intro u t hu hfollows hmoves l
    rw [State.ctx_congr hfollows.leaves.2.1]
    exact hmoved _ _ _ (hu l) (hmoves l)
  exact State.settleFrom_keeps (P := fun u => ∀ l, P (u.ctx l) (u.line l)) before
    (fun u t hu ht => hmove u t hu (State.fetchBegin_follows ht) (State.fetchBegin_moved ht))
    (fun u t l hu ht => hmove u t hu (State.engineMove_follows ht) (State.engineMove_moved ht))
    (fun u t hu ht => hmove u t hu (State.servicePlace_follows ht) (State.servicePlace_moved ht))
    (fun u t fresh hu ht => hmove u t hu (State.take_follows ht) (State.take_moved ht))
    (fun u hu ht => hmove u _ hu (State.enterHalted_follows ht) (State.enterHalted_moved ht))
    (fun u hu => hmove u _ hu (State.relabel_follows u) u.relabel_moved) s h l

/-! ## What an effect does to a line -/

/-- What the effect of command `c` does to a line in the context `x`; `y` is its context afterwards, and `serving` says
whether the engines run. -/
inductive Line.Touched (serving : Bool) (x y : LineCtx) (c : Instr) (a : Line) : Line → Prop where
  | same : y = x → Touched serving x y c a a
  | happening (b : Line) :
      y = x → serving = true ∨ a.xcvr.state ≠ .idle ∨ a.engine.state = .exchanging → Line.Happening x c a b →
      Touched serving x y c a b
  | reserved (side : QueueSide) (n : Nat) :
      y = x → Touched serving x y c a { a with engine := a.engine.setReserved side n }
  | queued (side : QueueSide) (r : Request) :
      y = x → Touched serving x y c a { a with engine := a.engine.queued side r }
  | frozen : y = x → Touched serving x y c a a.freeze
  | reset : y = x → Touched serving x y c a a.resetLine
  | started : Touched serving x y c a (a.start y.cfg)
  | initial : c = .powerOn → Touched serving x y c a .initial

section
variable {s u : State} {c : Instr}

theorem State.touched_of_lines (hlines : u.lines = s.lines) (hloaded : u.loaded = s.loaded) (m : LineId) :
    Line.Touched s.serving (s.ctx m) (u.ctx m) c (s.line m) (u.line m) := by
  rw [State.line_congr hlines m]
  exact .same (State.ctx_congr hloaded m)

/-- A line replaced, the others as they were. -/
theorem State.touched_setLine {l : LineId} {ln : Line}
    (h : Line.Touched s.serving (s.ctx l) (s.ctx l) c (s.line l) ln) (m : LineId) :
    Line.Touched s.serving (s.ctx m) (s.ctx m) c (s.line m) ((s.setLine l ln).line m) := by
  rw [State.line_setLine]
  split
  · next he => subst he; exact h
  · exact .same rfl

theorem State.Effect.touched (h : s.Effect c u) (m : LineId) :
    Line.Touched s.serving (s.ctx m) (u.ctx m) c (s.line m) (u.line m) := by
  cases h with
  | window u hn hu => exact State.touched_of_lines (by rw [hu]) (by rw [hu]) m
  | powerOn hc =>
    have hline : s.powerOnPart.line m = Line.initial := by
      simp [State.powerOnPart, State.line, State.reset, Vector.get_eq_getElem]
    rw [hline]
    exact .initial hc
  | reset hn hacts =>
    have hline : s.resetPart.line m = (s.line m).resetLine := s.line_mapLines Line.resetLine m
    rw [hline]
    exact .reset rfl
  | loadBegins hn hd =>
    rw [State.startCommand_of_halted hd]
    exact State.touched_of_lines rfl rfl m
  | started cfg hn hd hread hgood =>
    have hline : (s.enterRunning cfg).line m = (s.line m).start (cfg.lines.get m) := by
      simp [State.enterRunning, State.line, State.raise, Vector.get_eq_getElem]
    rw [hline]
    exact .started
  | fetched r tail u hn hd hu =>
    have hloaded : u.loaded = s.loaded := (State.fetchBegin_leaves hu).2.2.2.2.2.2.2.2
    obtain ⟨-, q, -, rfl⟩ := State.fetchBegin_cases hu
    rw [State.ctx_congr hloaded]
    obtain ⟨l, side, -, h⟩ | ⟨-, h⟩ := State.reserve_cases _ q
    · rw [h]
      exact State.touched_setLine (s := s) (l := l) (.reserved side _ rfl) m
    · rw [h]
      exact .same rfl
  | line l ln hn hbusy hln => exact State.touched_setLine (l := l) (.happening ln rfl hbusy hln) m
  | taken r data hc hf =>
    rw [State.ctx_congr (s.recordTaken_sameValues r data).loaded]
    cases hr : ringTarget r with
    | some target =>
      obtain ⟨l, side⟩ := target
      rw [State.recordTaken_of_request hr]
      exact State.touched_setLine (s := s) (l := l) (.queued side _ rfl) m
    | none =>
      rw [State.recordTaken_of_supply hr]
      obtain ⟨-, -, h⟩ | ⟨-, -, h⟩ | ⟨-, h⟩ := (s.indexMoved r).supplyTaken_cases (SupplyRecord.ofBytes (exactly 16 data)) <;>
        rw [h] <;> exact .same rfl
  | readFailed r hn hf =>
    rw [State.ctx_congr (s.release_sameValues r).loaded (t := (s.release r).breakRing r)]
    obtain ⟨l, side, -, h⟩ | ⟨-, h⟩ := s.release_cases r <;> rw [h]
    · exact State.touched_setLine (s := s) (l := l) (.reserved side _ rfl) m
    · exact .same rfl
  | written hc hserving hwrite =>
    have hline : s.countWritten.announceDue.lines = s.lines := by
      unfold State.announceDue
      split <;> rfl
    exact State.touched_of_lines hline s.countWritten.announceDue_sameValues.loaded m
  | faulted hc hserving hwrite =>
    have hline : s.enterFaulted.line m = (s.line m).freeze := s.line_mapLines Line.freeze m
    rw [hline]
    exact .frozen rfl
  | _ => exact State.touched_of_lines rfl rfl m

end

/-! ## Invariants of steps -/

/-- Whether the next command waits or has been taken is nothing the invariants speak of. -/
theorem State.Sound.of_pending {s : State} (h : s.Sound) (rest : List Instr) : State.Sound { s with pending := rest } :=
  ⟨h.wire, h.queues, h.ring, h.device, h.accounted, h.entries, h.drivers, h.active, h.collections⟩

/-- What holds after a microsecond and after every effect from a sound state, and what follows keeps, holds after a step. -/
theorem step_establishes {P : State → Prop} (htick : ∀ s : State, s.Sound → P s.tick)
    (heffect : ∀ (s u : State) (c : Instr), s.Sound → s.Effect c u → P u)
    (hsettle : ∀ before u : State, P u → P (State.settleFrom before u)) {s t : State} (hsound : s.Sound)
    (hstep : step s = .next t) : P t := by
  cases hpending : s.pending with
  | nil =>
    rw [step_of_idle hpending] at hstep
    cases hstep
    exact htick s hsound
  | cons c rest =>
    rw [step_of_command c rest s hpending] at hstep
    obtain ⟨u, hu, rfl | rfl⟩ := State.After.of_exec hstep
    · exact heffect _ _ c (hsound.of_pending rest) hu
    · exact hsettle _ _ (heffect _ _ c (hsound.of_pending rest) hu)

/-- The same for an invariant of lines. -/
theorem step_establishesLines {P : LineCtx → Line → Prop}
    (htick : ∀ (s : State) (l : LineId), s.Sound → P (s.ctx l) (s.line l).tick)
    (hstill : ∀ (s : State) (l : LineId), s.Sound → P (s.ctx l) (s.line l))
    (htouched : ∀ (s u : State) (c : Instr) (l : LineId), s.Sound → s.Effect c u →
      Line.Touched s.serving (s.ctx l) (u.ctx l) c (s.line l) (u.line l) → P (u.ctx l) (u.line l))
    (hmoved : ∀ x a b, P x a → Line.Moved x a b → P x b) {s t : State} (hsound : s.Sound) (hstep : step s = .next t)
    (l : LineId) : P (t.ctx l) (t.line l) := by
  refine step_establishes (P := fun t => ∀ l, P (t.ctx l) (t.line l)) (fun s hs l => ?_)
    (fun s u c hs hu l => htouched s u c l hs hu (hu.touched l))
    (fun before u hu l => State.settleFrom_keepsLines hmoved before u hu l) hsound hstep l
  cases hserving : s.serving with
  | true =>
    rw [State.tick_of_serving hserving]
    exact (s.line_mapLines Line.tick l) ▸ htick s l hs
  | false =>
    rw [State.tick_of_not_serving hserving]
    exact hstill s l hs

end Sys2Proof.Machine
end

section
/-! PROOFS. The end of an exchange as a whole, and the wire: a frame is on it only for an exchange of a line that is UP (R11,
R12, R14, R18, R51). -/

namespace Sys2Proof.Machine

/-! ## The end of an exchange -/

/-- The end of an exchange (R11, R41): without work to belong to it only ends; cut off it is only noted; otherwise its result
is applied and the consequence for the work follows. -/
theorem Line.exchangeEnd_cases (x : LineCtx) (d : DeviceState) (ln : Line) (res : ExchangeResult) :
    ((ln.engine.purpose = none ∨ ln.xcvr.frame = none) ∧
        ln.exchangeEnd x res = { ln.endWork with xcvr := Transceiver.initial }) ∨
    ∃ p f, ln.engine.purpose = some p ∧ ln.xcvr.frame = some f ∧
      ((res.tripped = true ∧ ln.exchangeEnd x res = ln.exchangeTripped p) ∨
        (res.tripped = false ∧
          (Line.Quiet x d (ln.exchangeApplied x f res) (ln.exchangeEnd x res) ∨
            (∃ k, ln.engine.collection = some k ∧
              Line.Quiet x d ((ln.exchangeApplied x f res).setEntry k.node
                { (ln.exchangeApplied x f res).entry k.node with offerLength := none }) (ln.exchangeEnd x res)) ∨
            (p = .poll ∧ ∃ k, k.buffer = none ∧
              ln.exchangeEnd x res = { ln.exchangeApplied x f res with
                engine := { (ln.exchangeApplied x f res).engine with collection := some k } })))) := by
  cases hp : ln.engine.purpose with
  | none => exact .inl ⟨.inl rfl, Line.exchangeEnd_of_none (.inl hp)⟩
  | some p =>
    cases hf : ln.xcvr.frame with
    | none => exact .inl ⟨.inr rfl, Line.exchangeEnd_of_none (.inr hf)⟩
    | some f =>
      refine .inr ⟨p, f, rfl, rfl, ?_⟩
      cases hres : res.tripped with
      | true => exact .inl ⟨rfl, Line.exchangeEnd_of_tripped hp hf hres⟩
      | false =>
        rw [Line.exchangeEnd_of_not_tripped hp hf hres]
        obtain hquiet | ⟨-, k, hk, hquiet⟩ | ⟨hpoll, k, hb, heq⟩ :=
          Line.workEnd_cases x d (ln.exchangeApplied x f res) p (ln.entry f.node).state f.node res
        · exact .inr ⟨rfl, .inl hquiet⟩
        · exact .inr ⟨rfl, .inr (.inl ⟨k, by simpa using hk, hquiet⟩)⟩
        · exact .inr ⟨rfl, .inr (.inr ⟨hpoll, k, hb, heq⟩)⟩

/-- The end of an exchange leaves the Transceiver IDLE and the engine with no exchange and no access; no line comes UP. -/
theorem Line.exchangeEnd_leaves (x : LineCtx) (ln : Line) (res : ExchangeResult) :
    let m := ln.exchangeEnd x res
    m.xcvr = Transceiver.initial ∧ m.engine.state = .idle ∧ m.engine.purpose = none ∧ m.engine.access = none ∧
      m.engine.urgentReserved = ln.engine.urgentReserved ∧ m.engine.routineReserved = ln.engine.routineReserved ∧
      (m.driver.state = .up → ln.driver.state = .up) := by
  obtain ⟨-, h⟩ | ⟨p, f, -, -, ⟨-, h⟩ | ⟨-, hquiet | ⟨k, -, hquiet⟩ | ⟨-, k, -, h⟩⟩⟩ :=
    Line.exchangeEnd_cases x .running ln res
  · rw [h]; simp
  · rw [h]; simp
  · obtain ⟨h1, h2, h3, h4, h5, h6, h7⟩ := hquiet.leaves
    simp [h1, h2, h3, h4, h5, h6] at h7 ⊢
    exact h7
  · obtain ⟨h1, h2, h3, h4, h5, h6, h7⟩ := hquiet.leaves
    simp [h1, h2, h3, h4, h5, h6] at h7 ⊢
    exact h7
  · rw [h]; simp

/-! ## The wire -/

/-- An idle wire is safe. -/
theorem Line.wireSafe_of_idle {ln : Line} (h : ln.xcvr.state = .idle) (cfg : LineConfig) : ln.wireSafe cfg :=
  fun hbusy => absurd h hbusy

/-- Changes outside the wire, the driver's state, the engine's exchange and the entries. -/
theorem Line.wireSafe.of_eq {a b : Line} {cfg : LineConfig} (ha : a.wireSafe cfg)
    (hxcvr : b.xcvr.state = a.xcvr.state ∧ b.xcvr.frame = a.xcvr.frame ∧ b.xcvr.attempts = a.xcvr.attempts ∧
      b.xcvr.garbled = a.xcvr.garbled)
    (hdriver : b.driver.state = a.driver.state) (hstate : b.engine.state = a.engine.state)
    (haccess : b.engine.access = a.engine.access) (hpurpose : b.engine.purpose = a.engine.purpose)
    (htable : b.table = a.table) : b.wireSafe cfg := by
  have hentry : ∀ n, b.entry n = a.entry n := Line.entry_congr htable
  obtain ⟨h1, h2, h3, h4⟩ := hxcvr
  unfold Line.wireSafe at ha ⊢
  simpa only [h1, h2, h3, h4, hdriver, hstate, haccess, hpurpose, hentry] using ha

section
variable {x : LineCtx} {c : Instr} {a b : Line}

theorem Line.trip_xcvr (ln : Line) (x : LineCtx) : (ln.trip x).xcvr.state = .idle := by
  unfold Line.trip
  dsimp only
  split
  · next h => split <;> exact h
  · rw [(Line.exchangeEnd_leaves x _ _).1]; rfl

theorem Line.Happening.wireSafe (h : Line.Happening x c a b) (ha : a.wireSafe x.cfg) : b.wireSafe x.cfg := by
  have hidle : a.driver.state ≠ .up → a.xcvr.state = .idle := fun hdown => by
    by_contra hbusy
    exact hdown (ha hbusy).1
  cases h with
  | comeUp hst => exact Line.wireSafe_of_idle (ln := a.comeUp x.cfg) (hidle (by simp [hst])) _
  | supply hst =>
    exact Line.wireSafe_of_idle (ln := { a with driver := a.driver.applySupply x.cfg }) (hidle (by simp [hst])) _
  | trip hst => exact Line.wireSafe_of_idle (a.trip_xcvr x) _
  | pollDue => exact ha.of_eq ⟨rfl, rfl, rfl, rfl⟩ rfl rfl rfl rfl rfl
  | urgentFreed => exact ha.of_eq ⟨rfl, rfl, rfl, rfl⟩ rfl rfl rfl rfl rfl
  | routineFreed t ht => exact ha.of_eq ⟨rfl, rfl, rfl, rfl⟩ rfl rfl rfl rfl rfl
  | frameSent hst =>
    obtain ⟨hup, hengine, haccess, hpurpose, hcounts, hframe⟩ := ha (by simp [hst])
    rw [if_pos hst] at hcounts
    refine fun _ => ⟨hup, hengine, haccess, hpurpose, ?_, hframe⟩
    simp only [Transceiver.frameSent, reduceCtorEq, if_false]
    omega
  | replyBegun hst =>
    obtain ⟨hup, hengine, haccess, hpurpose, hcounts, hframe⟩ := ha (by simp [hst])
    rw [if_neg (by simp [hst])] at hcounts
    exact fun _ => ⟨hup, hengine, haccess, hpurpose, by simpa [Transceiver.replyBegun] using hcounts, hframe⟩
  | resend g hst hleft =>
    have hnot : a.xcvr.state ≠ .sending ∧ a.xcvr.state ≠ .idle := by
      obtain ⟨hst, -⟩ | ⟨hst, -⟩ := hst <;> simp [hst]
    obtain ⟨hup, hengine, haccess, hpurpose, hcounts, hframe⟩ := ha hnot.2
    rw [if_neg hnot.1] at hcounts
    refine fun _ => ⟨hup, hengine, haccess, hpurpose, ?_, hframe⟩
    simp only [Transceiver.resend, if_true]
    omega
  | failed g hst => exact Line.wireSafe_of_idle (by rw [(Line.exchangeEnd_leaves x a _).1]; rfl) _
  | valid rx f r hc hst hf hjudge => exact Line.wireSafe_of_idle (by rw [(Line.exchangeEnd_leaves x a _).1]; rfl) _
  | accessEnd b hst haccess hunit =>
    have hxcvr : a.endWork.xcvr.state = .idle := by
      by_contra hbusy
      obtain ⟨-, -, hnone, -⟩ := ha hbusy
      simp [hnone] at haccess
    exact hunit.wireSafe hxcvr _

theorem Line.Touched.wireSafe {v : Bool} {y : LineCtx} (h : Line.Touched v x y c a b) (ha : a.wireSafe x.cfg) : b.wireSafe y.cfg := by
  cases h with
  | same hy => exact hy ▸ ha
  | happening b hy hbusy hb => exact hy ▸ hb.wireSafe ha
  | reserved side n hy =>
    subst hy
    cases side <;> exact ha.of_eq ⟨rfl, rfl, rfl, rfl⟩ rfl rfl rfl rfl rfl
  | queued side r hy =>
    subst hy
    cases side <;> exact ha.of_eq ⟨rfl, rfl, rfl, rfl⟩ rfl rfl rfl rfl rfl
  | _ => exact Line.wireSafe_of_idle rfl _

theorem Line.Moved.wireSafe (h : Line.Moved x a b) (ha : a.wireSafe x.cfg) : b.wireSafe x.cfg := by
  have hidle : a.engine.state ≠ .exchanging → a.xcvr.state = .idle := fun hstate => by
    by_contra hbusy
    exact hstate (ha hbusy).2.1
  cases h with
  | same => exact ha
  | reserved side n => cases side <;> exact ha.of_eq ⟨rfl, rfl, rfl, rfl⟩ rfl rfl rfl rfl rfl
  | worked d b hstate hunit => exact hunit.wireSafe (hidle (by rcases hstate with h | h <;> simp [h])) _
  | granted b cache cache' hstate hgrant => exact hgrant.wireSafe (hidle (by rcases hstate with h | h <;> simp [h])) _
  | emptied => exact ha.of_eq ⟨rfl, rfl, rfl, rfl⟩ rfl rfl rfl rfl rfl
  | unbarred hstate => exact Line.wireSafe_of_idle (ln := a.clearBarred) (hidle (by simp [hstate])) _
  | relabelled =>
    obtain ⟨st, heq, hkept, -⟩ := a.relabel_eq
    rw [heq]
    intro hbusy
    have hexchanging := (ha hbusy).2.1
    rw [hkept (by simp [hexchanging]) (by simp [hexchanging])]
    exact ha hbusy

theorem Line.wireSafe.tick {cfg : LineConfig} (ha : a.wireSafe cfg) : a.tick.wireSafe cfg :=
  ha.of_eq ⟨rfl, rfl, rfl, rfl⟩ rfl rfl rfl rfl rfl

end

/-- Settles O6: every effect and every move leaves each line's wire safe. -/
theorem stepKeepsWireSafe : Obligations.StepKeepsWireSafe := by
  intro s t hsound hstep
  exact step_establishesLines (P := fun x ln => ln.wireSafe x.cfg) (fun s l hs => (hs.wire l).tick) (fun s l hs => hs.wire l)
    (fun s u c l hs _ htouched => htouched.wireSafe (hs.wire l)) (fun x a b ha hab => hab.wireSafe ha) hsound hstep

end Sys2Proof.Machine
end

section
/-! PROOFS. The Node Table: what the result of an exchange does to an entry's toggles and to its form, and that every step
keeps the entries well formed and the toggles but for a VALID ACK (R14, R17, R18, R37, R41 to R50). -/

namespace Sys2Proof.Machine

/-! ## Numbers of bytes -/

/-- A run of `n` bytes holds a number below 256 to the `n`. -/
theorem leNat_lt (bs : List Byte) : leNat bs < 256 ^ bs.length := by
  induction bs with
  | nil => simp [leNat]
  | cons b bs ih =>
    have hb := b.isLt
    simp only [leNat, List.length_cons, Nat.pow_succ]
    omega

/-! ## Replies that are VALID -/

/-- A VALID reply is one that the table of R8 accepts. -/
theorem replyAccepted_of_judge {f : Frame} {rx : List RxByte} {r : Reply} (h : judge f rx = some r) :
    replyAccepted f r = true := by
  unfold judge at h
  dsimp only at h
  repeat' split at h
  all_goals cases h
  next hcheck =>
    simp only [Bool.and_eq_true] at hcheck
    exact hcheck.1

/-- The offer of a VALID POLL is one byte (R8). -/
theorem judge_poll_length {f : Frame} {rx : List RxByte} {r : Reply} (h : judge f rx = some r) (hf : f.kind = .poll)
    (hr : r.kind = .ack) : r.payload.length = 1 :=
  ((replyAccepted_ack_poll hr hf).mp (replyAccepted_of_judge h)).1

/-- An IDENTIFY is only answered VALID by an ACK (R8). -/
theorem judge_identify_ack {f : Frame} {rx : List RxByte} {r : Reply} (h : judge f rx = some r) (hf : f.kind = .identify) :
    r.kind = .ack := by
  have haccepted := replyAccepted_of_judge h
  cases hr : r.kind with
  | ack => rfl
  | nakBusy => exact absurd hf ((replyAccepted_nakBusy hr).mp haccepted).2.1
  | nakRefused => exact absurd hf ((replyAccepted_nakRefused hr).mp haccepted).2.2.1

/-! ## The form of an entry -/

section
variable {e : Entry} {cfg : LineConfig}

theorem Entry.join_wf (hmiss : 1 ≤ cfg.missBudget) (identity : BitVec 32) (capability : BitVec 16) :
    (Entry.join identity capability).wf cfg := by
  simp [Entry.wf, Entry.join, Entry.initial]
  omega

/-- The form of an entry does not speak of its toggles. -/
theorem Entry.wf.toggles (h : e.wf cfg) (send recv : Bool) : Entry.wf { e with sendToggle := send, recvToggle := recv } cfg := by
  obtain ⟨hoffer, hpresent, hsilent, helse⟩ := h
  refine ⟨hoffer, hpresent, hsilent, fun hst => ?_⟩
  have := helse hst
  cases e
  simp_all [Entry.initial]

theorem Entry.applyToggles_wf (h : e.wf cfg) (kind : FrameKind) (r : Reply) : (e.applyToggles kind r).wf cfg := by
  unfold Entry.applyToggles
  split
  · exact h
  · split
    · exact h.toggles _ _
    · split
      · exact h.toggles _ _
      · split
        · exact h.toggles _ _
        · exact h

theorem Entry.identifyValid_wf (h : e.wf cfg) (hmiss : 1 ≤ cfg.missBudget) (identity : BitVec 32) (capability : BitVec 16) :
    (e.identifyValid identity capability).1.wf cfg := by
  obtain ⟨hoffer, hpresent, hsilent, helse⟩ := h
  unfold Entry.identifyValid
  split
  · exact Entry.join_wf hmiss _ _
  · exact Entry.join_wf hmiss _ _
  · next hst =>
    split
    · next hsame =>
      obtain ⟨-, -, -, hcounts⟩ := hpresent hst
      exact ⟨hoffer, fun _ => ⟨by simp [hsame], rfl, by simp; omega, hcounts⟩, by simp [hst], by simp [hst]⟩
    · exact Entry.join_wf hmiss _ _
  · next hst =>
    split
    · next hsame => exact ⟨hoffer, fun _ => ⟨by simp [hsame], rfl, by simp; omega, rfl, rfl⟩, by simp, by simp⟩
    · exact Entry.join_wf hmiss _ _
  · next hst => exact ⟨hoffer, hpresent, hsilent, helse⟩

theorem Entry.pollOffer_wf (h : ∀ n ∈ e.offerLength, 1 ≤ n ∧ n ≤ 255) (r : Reply) (hlength : r.kind = .ack → r.payload.length = 1) :
    ∀ n ∈ (e.pollOffer r).offerLength, 1 ≤ n ∧ n ≤ 255 := by
  unfold Entry.pollOffer
  split
  · next hack =>
    have hlt := leNat_lt r.payload
    rw [hlength hack] at hlt
    unfold offerOf
    split
    · simp
    · intro n hn
      simp at hn
      omega
  · exact h

/-- The offer of a POLL is the only thing it changes of an entry's identity and counts. -/
@[simp] theorem Entry.pollOffer_leaves (e : Entry) (r : Reply) :
    (e.pollOffer r).state = e.state ∧ (e.pollOffer r).identity = e.identity ∧ (e.pollOffer r).capability = e.capability ∧
      (e.pollOffer r).sendToggle = e.sendToggle ∧ (e.pollOffer r).recvToggle = e.recvToggle ∧
      (e.pollOffer r).missCount = e.missCount ∧ (e.pollOffer r).silentMisses = e.silentMisses ∧
      (e.pollOffer r).alert = e.alert ∧ (e.pollOffer r).rejoinCheck = e.rejoinCheck := by
  unfold Entry.pollOffer
  split <;> simp

theorem Entry.applyValid_wf (h : e.wf cfg) (hmiss : 1 ≤ cfg.missBudget) (kind : FrameKind) (r : Reply)
    (hlength : kind = .poll → r.kind = .ack → r.payload.length = 1) : (e.applyValid kind r).1.wf cfg := by
  obtain ⟨hoffer, hpresent, hsilent, helse⟩ := h
  unfold Entry.applyValid
  split
  · exact Entry.identifyValid_wf ⟨hoffer, hpresent, hsilent, helse⟩ hmiss _ _
  · have hpolled := Entry.pollOffer_wf hoffer r (hlength rfl)
    split
    · next hst =>
      obtain ⟨hid, hcap, -, hcounts⟩ := hpresent hst
      exact ⟨hpolled, fun _ => ⟨by simpa using hid, by simpa using hcap, by simp; omega, by simpa using hcounts⟩,
        by simp [hst], by simp [hst]⟩
    · next hst =>
      obtain ⟨hid, hcap, hcounts⟩ := hsilent hst
      exact ⟨hpolled, by simp [hst], fun _ => ⟨by simpa using hid, by simpa using hcap, by simpa using hcounts⟩,
        by simp [hst]⟩
    · exact ⟨hoffer, hpresent, hsilent, helse⟩
  · split
    · next hst =>
      obtain ⟨hid, hcap, -, hcounts⟩ := hpresent hst
      exact ⟨hoffer, fun _ => ⟨hid, hcap, by simp; omega, hcounts⟩, by simp [hst], by simp [hst]⟩
    · exact ⟨hoffer, hpresent, hsilent, helse⟩

theorem Entry.applyAlert_wf (h : e.wf cfg) (r : Reply) : (e.applyAlert r).1.wf cfg := by
  unfold Entry.applyAlert
  split
  · next hst =>
    obtain ⟨hoffer, hpresent, hsilent, helse⟩ := h
    refine ⟨hoffer, hpresent, hsilent, fun hother => ?_⟩
    obtain hst | hst := hst <;> simp [hst] at hother
  · exact h

theorem Entry.silentMiss_wf (h : e.wf cfg) (hst : e.state = .silent) : (e.silentMiss cfg).1.wf cfg := by
  unfold Entry.silentMiss
  split
  · exact Entry.clear_wf _ _
  · obtain ⟨hoffer, hpresent, hsilent, helse⟩ := h
    obtain ⟨hid, hcap, hmisses, hcount⟩ := hsilent hst
    exact ⟨hoffer, by simp [hst], fun _ => ⟨hid, hcap, hmisses, by simp; omega⟩, by simp [hst]⟩

theorem Entry.miss_wf (h : e.wf cfg) (hdrop : 1 ≤ cfg.dropLimit) (hst : e.state = .present) : (e.miss cfg).1.wf cfg := by
  obtain ⟨hoffer, hpresent, hsilent, helse⟩ := h
  obtain ⟨hid, hcap, hmisses, hcounts⟩ := hpresent hst
  unfold Entry.miss
  split
  · exact ⟨hoffer, by simp, fun _ => ⟨hid, hcap, rfl, by simp; omega⟩, by simp⟩
  · exact ⟨hoffer, fun _ => ⟨hid, hcap, by simp; omega, hcounts⟩, by simp [hst], by simp [hst]⟩

theorem Entry.applyFailed_wf (h : e.wf cfg) (hdrop : 1 ≤ cfg.dropLimit) (kind : FrameKind) (res : ExchangeResult) :
    (e.applyFailed cfg kind res).1.wf cfg := by
  unfold Entry.applyFailed
  split
  · next hst => exact Entry.miss_wf h hdrop hst
  · next hst =>
    have hunchecked : Entry.wf { e with rejoinCheck := false } cfg := by
      obtain ⟨hoffer, hpresent, hsilent, helse⟩ := h
      exact ⟨hoffer, by simp [hst], hsilent, by simp [hst]⟩
    split
    · exact Entry.silentMiss_wf hunchecked hst
    · exact Entry.silentMiss_wf h hst
    · exact h
  · next hst =>
    split
    · obtain ⟨hoffer, hpresent, hsilent, helse⟩ := h
      refine ⟨hoffer, by simp, by simp, fun _ => ?_⟩
      have := helse (.inl hst)
      cases e
      simp_all [Entry.initial]
    · exact h
  · split
    · exact Entry.clear_wf _ _
    · exact h
  · exact h

/-- The result of an exchange leaves an entry well formed (R41). -/
theorem Entry.afterExchange_wf (h : e.wf cfg) (hmiss : 1 ≤ cfg.missBudget) (hdrop : 1 ≤ cfg.dropLimit) (kind : FrameKind)
    (res : ExchangeResult)
    (hlength : ∀ r, res.reply = some r → kind = .poll → r.kind = .ack → r.payload.length = 1) :
    (e.afterExchange cfg kind res).1.wf cfg := by
  unfold Entry.afterExchange
  split
  · next r hr =>
    exact Entry.applyAlert_wf (Entry.applyValid_wf (Entry.applyToggles_wf h kind r) hmiss kind r (hlength r hr)) r
  · exact Entry.applyFailed_wf h hdrop kind res

end

/-! ## The toggles of an entry -/

section
variable (e : Entry) (cfg : LineConfig)

theorem Entry.applyFailed_toggles (kind : FrameKind) (res : ExchangeResult) :
    e.SameToggles (e.applyFailed cfg kind res).1 := by
  unfold Entry.applyFailed Entry.miss Entry.silentMiss
  repeat' split
  all_goals exact ⟨rfl, rfl⟩

theorem Entry.applyAlert_toggles (r : Reply) : e.SameToggles (e.applyAlert r).1 := by
  unfold Entry.applyAlert
  split <;> exact ⟨rfl, rfl⟩

/-- A join starts with both toggles 0, as the ACK of the IDENTIFY has already set them (R17). -/
theorem Entry.identifyValid_toggles (hsend : e.sendToggle = false) (hrecv : e.recvToggle = false) (identity : BitVec 32)
    (capability : BitVec 16) : e.SameToggles (e.identifyValid identity capability).1 := by
  unfold Entry.identifyValid Entry.replaced
  repeat' split
  all_goals simp [Entry.SameToggles, Entry.join, Entry.initial, hsend, hrecv]

theorem Entry.applyValid_toggles (kind : FrameKind) (r : Reply)
    (hidentify : kind = .identify → e.sendToggle = false ∧ e.recvToggle = false) :
    e.SameToggles (e.applyValid kind r).1 := by
  unfold Entry.applyValid
  split
  · exact Entry.identifyValid_toggles e (hidentify rfl).1 (hidentify rfl).2 _ _
  · split <;> simp [Entry.SameToggles]
  · split <;> exact ⟨rfl, rfl⟩

/-- What a VALID reply does to the toggles (R14, R17, R18). -/
theorem Entry.afterExchange_toggles (kind : FrameKind) (res : ExchangeResult) {r : Reply} (hr : res.reply = some r)
    (hidentify : kind = .identify → r.kind = .ack) :
    (e.afterExchange cfg kind res).1.sendToggle =
        (if r.kind = .ack then
          if kind = .identify then false else if kind.carriesSend then !e.sendToggle else e.sendToggle
        else e.sendToggle) ∧
      (e.afterExchange cfg kind res).1.recvToggle =
        (if r.kind = .ack then
          if kind = .identify then false else if kind.carriesRecv then !e.recvToggle else e.recvToggle
        else e.recvToggle) := by
  have hkept : (e.applyToggles kind r).SameToggles (e.afterExchange cfg kind res).1 := by
    have hvalid := Entry.applyValid_toggles (e.applyToggles kind r) kind r (fun hk => by
      simp [Entry.applyToggles, hidentify hk, hk, FrameKind.carriesSend, FrameKind.carriesRecv])
    have halert := Entry.applyAlert_toggles ((e.applyToggles kind r).applyValid kind r).1 r
    unfold Entry.afterExchange
    rw [hr]
    exact ⟨halert.1.trans hvalid.1, halert.2.trans hvalid.2⟩
  rw [hkept.1, hkept.2]
  unfold Entry.applyToggles
  by_cases hack : r.kind = .ack
  · cases kind <;> simp [hack, FrameKind.carriesSend, FrameKind.carriesRecv]
  · simp [hack]

/-- A FAILED result changes no toggle. -/
theorem Entry.afterExchange_failed_toggles (kind : FrameKind) (res : ExchangeResult) (hr : res.reply = none) :
    e.SameToggles (e.afterExchange cfg kind res).1 := by
  unfold Entry.afterExchange
  rw [hr]
  exact Entry.applyFailed_toggles e cfg kind res

end

end Sys2Proof.Machine
end

section
/-! PROOFS. What an accepted block guarantees, where engines and wires are busy, and two rules of the Node Table: entries and
driver counts stay well formed, and toggles change by a VALID ACK alone (R14, R17, R18, R23, R32, R37, R160). -/

namespace Sys2Proof.Machine

/-! ## An accepted block -/

theorem LoadedConfig.firstBadField_eq_none_iff (c : LoadedConfig) :
    c.firstBadField = none ↔ ∀ ok ∈ c.checks, ok = true := by
  simp [LoadedConfig.firstBadField, List.findIdx?_eq_none_iff]

/-- The fields of a line in an accepted block are in range (R160). -/
theorem LoadedConfig.line_checked {c : LoadedConfig} (h : c.firstBadField = none) (l : LineId) :
    ∀ ok ∈ lineChecks (c.lines.get l), ok = true := fun ok hok =>
  (c.firstBadField_eq_none_iff.mp h) ok (by
    refine List.mem_append_right _ (List.mem_flatMap.mpr ⟨c.lines.get l, ?_, hok⟩)
    simp [Vector.get_eq_getElem])

/-- The budgets of a line in an accepted block (R45, R47, R160). -/
theorem LoadedConfig.line_budgets {c : LoadedConfig} (h : c.firstBadField = none) (l : LineId) :
    1 ≤ (c.lines.get l).missBudget ∧ 1 ≤ (c.lines.get l).dropLimit := by
  have hchecks := c.line_checked h l
  simp only [lineChecks, List.mem_cons, forall_eq_or_imp, decide_eq_true_eq, Bool.and_eq_true] at hchecks
  obtain ⟨-, -, -, -, -, -, -, hmiss, hdrop, -⟩ := hchecks
  exact ⟨hmiss.1, hdrop.1⟩

/-- The descriptors of an accepted block have size exponents 4 to 10 (R160). -/
theorem LoadedConfig.ring_exponent {c : LoadedConfig} (h : c.firstBadField = none) (d : Fin 10) :
    4 ≤ (c.rings.get d).exponent ∧ (c.rings.get d).exponent ≤ 10 := by
  have hcheck := (c.firstBadField_eq_none_iff.mp h)
    (4 ≤ (c.rings.get d).exponent && (c.rings.get d).exponent ≤ 10 &&
      fitsTop (c.rings.get d).base ((c.rings.get d).size * slotBytes d.val)) (by
    refine List.mem_append_left _ (List.mem_append_left _ (List.mem_flatMap.mpr ⟨(c.rings.get d, d.val), ?_, ?_⟩))
    · simp [List.mem_zipIdx_iff_getElem?, Vector.get_eq_getElem]
    · simp [ringChecks])
  simp only [Bool.and_eq_true, decide_eq_true_eq] at hcheck
  exact hcheck.1

/-- The coalescing count of an accepted block is at least 1 (R154, R160). -/
theorem LoadedConfig.coalescing_pos {c : LoadedConfig} (h : c.firstBadField = none) : 1 ≤ c.coalescing := by
  have hcheck := (c.firstBadField_eq_none_iff.mp h) (1 ≤ c.coalescing && c.coalescing ≤ 32) (by simp [LoadedConfig.checks])
  simp only [Bool.and_eq_true, decide_eq_true_eq] at hcheck
  exact hcheck.1

/-! ## Where engines and wires are busy -/

/-- A busy engine or wire belongs to a device that is RUNNING or STOPPING, with a configuration loaded (R157). -/
theorem State.Sound.serving_of_busy {s : State} (h : s.Sound) {l : LineId}
    (hbusy : s.serving = true ∨ (s.line l).xcvr.state ≠ .idle ∨ (s.line l).engine.state = .exchanging) :
    (s.device = .running ∨ s.device = .stopping) ∧ s.loaded.isSome := by
  obtain ⟨-, hstill, hrunning, hstopping, hfaulted⟩ := h.device
  have hexchanging : s.serving = true ∨ (s.line l).engine.state = .exchanging := by
    obtain hserving | hwire | hengine := hbusy
    · exact .inl hserving
    · exact .inr (h.wire l hwire).2.1
    · exact .inr hengine
  have hserving : s.device = .running ∨ s.device = .stopping := by
    obtain hserving | hengine := hexchanging
    · exact s.serving_iff.mp hserving
    · cases hd : s.device with
      | halted => simp [((hstill (.inl hd)).1 l).1] at hengine
      | loading => simp [((hstill (.inr hd)).1 l).1] at hengine
      | running => exact .inl rfl
      | stopping => exact .inr rfl
      | faulted => simp [((hfaulted hd).1 l).1] at hengine
  refine ⟨hserving, ?_⟩
  obtain hd | hd := hserving
  · exact (hrunning hd).1
  · exact (hstopping hd).1

theorem State.Sound.budgets_of_loaded {s : State} (h : s.Sound) (hloaded : s.loaded.isSome) (l : LineId) :
    1 ≤ (s.lineConfig l).missBudget ∧ 1 ≤ (s.lineConfig l).dropLimit := by
  obtain ⟨c, hc⟩ := Option.isSome_iff_exists.mp hloaded
  simp only [State.lineConfig, hc]
  exact LoadedConfig.line_budgets (h.ring.1 c hc) l

/-! ## Entries and driver counts -/

section
variable {x : LineCtx} {c : Instr} {a b : Line}

theorem Line.exchangeApplied_formed {f : Frame} {res : ExchangeResult} (ha : a.formed x.cfg)
    (he : ((a.entry f.node).afterExchange x.cfg f.kind res).1.wf x.cfg) : (a.exchangeApplied x f res).formed x.cfg := by
  obtain ⟨hwf, h1, h2⟩ := ha
  refine ⟨fun n => ?_, by simpa using h1, by simpa using h2⟩
  obtain ⟨hentry, -⟩ := a.exchangeApplied_leaves x f res
  rw [hentry]
  split
  · exact he
  · exact hwf n

/-- The end of an exchange leaves the line well formed (R41, R135). -/
theorem Line.exchangeEnd_formed {res : ExchangeResult} (ha : a.formed x.cfg) (hmiss : 1 ≤ x.cfg.missBudget)
    (hdrop : 1 ≤ x.cfg.dropLimit)
    (hlength : ∀ f r, a.xcvr.frame = some f → res.reply = some r → f.kind = .poll → r.kind = .ack → r.payload.length = 1) :
    (a.exchangeEnd x res).formed x.cfg := by
  obtain ⟨-, h⟩ | ⟨p, f, -, hf, ⟨-, h⟩ | ⟨-, hend⟩⟩ := Line.exchangeEnd_cases x .running a res
  · rw [h]; exact ha.of_eq rfl rfl rfl
  · rw [h]; exact ha.of_eq (by simp) (by simp) (by simp)
  · have happlied : (a.exchangeApplied x f res).formed x.cfg :=
      Line.exchangeApplied_formed ha (Entry.afterExchange_wf (ha.1 f.node) hmiss hdrop f.kind res (fun r => hlength f r hf))
    obtain hquiet | ⟨k, -, hquiet⟩ | ⟨-, k, -, h⟩ := hend
    · exact hquiet.keeps (P := fun m => m.formed x.cfg) (fun _ _ hm hc => hc.formed hm) happlied
    · refine hquiet.keeps (P := fun m => m.formed x.cfg) (fun _ _ hm hc => hc.formed hm) (happlied.setEntry ?_)
      obtain ⟨-, hpresent, hsilent, helse⟩ := happlied.1 k.node
      refine ⟨by simp, hpresent, hsilent, fun hst => ?_⟩
      have := helse hst
      generalize (a.exchangeApplied x f res).entry k.node = e at this hst
      cases e
      simp_all [Entry.initial]
    · rw [h]; exact happlied.of_eq rfl rfl rfl

theorem Line.Happening.formed (h : Line.Happening x c a b) (ha : a.formed x.cfg) (hmiss : 1 ≤ x.cfg.missBudget)
    (hdrop : 1 ≤ x.cfg.dropLimit) : b.formed x.cfg := by
  cases h with
  | comeUp hst =>
    obtain ⟨hwf, h1, -⟩ := ha
    exact ⟨hwf, h1, Nat.zero_le _⟩
  | supply hst => exact ha.of_eq rfl rfl rfl
  | trip hst =>
    unfold Line.trip
    dsimp only
    have hleft : (if a.driver.state = .up then
        ({ a with driver := { a.driver with state := .tripped, settle := none },
                  engine := { a.engine with tripPending := true } } : Line).leaveUp
      else { a with driver := { a.driver with state := .tripped, settle := none },
                    engine := { a.engine with tripPending := true } }).formed x.cfg := by
      split <;> exact ha.of_eq rfl rfl rfl
    split
    · exact hleft
    · exact Line.exchangeEnd_formed hleft hmiss hdrop (fun _ _ _ hr => by cases hr)
  | failed g hst => exact Line.exchangeEnd_formed ha hmiss hdrop (fun _ _ _ hr => by cases hr)
  | valid rx f r hc hst hf hjudge =>
    refine Line.exchangeEnd_formed ha hmiss hdrop (fun f' r' hf' hr' hpoll hack => ?_)
    cases hr'
    rw [hf] at hf'
    cases hf'
    exact judge_poll_length hjudge hpoll hack
  | accessEnd b hst haccess hunit => exact hunit.formed (ha.of_eq rfl rfl rfl)
  | _ => exact ha.of_eq rfl rfl rfl

/-- An emptied Node Table and a driver with no round behind it are well formed. -/
theorem Line.formed_of_cleared {ln : Line} {cfg : LineConfig} (hentries : ∀ n, ∃ e : Entry, ln.entry n = e.clear)
    (hrestarts : ln.driver.restartsLeft ≤ cfg.restartBudget) (hrounds : ln.driver.roundsSinceUp = 0) :
    ln.formed cfg := by
  refine ⟨fun n => ?_, hrestarts, by omega⟩
  obtain ⟨e, he⟩ := hentries n
  rw [he]
  exact e.clear_wf cfg

@[simp] theorem Line.entry_resetLine (ln : Line) (n : Node) : ln.resetLine.entry n = (ln.entry n).clear := by
  simp [Line.entry, Line.resetLine, Vector.get_eq_getElem]

@[simp] theorem Line.entry_start (ln : Line) (cfg : LineConfig) (n : Node) : (ln.start cfg).entry n = (ln.entry n).clear := by
  simp [Line.entry, Line.start, Vector.get_eq_getElem]

@[simp] theorem Line.entry_initial (n : Node) : Line.initial.entry n = Entry.initial := by
  simp [Line.entry, Line.initial, Vector.get_eq_getElem]

/-- The driver of a line on entry to RUNNING (R24). -/
theorem Line.start_driver (ln : Line) (cfg : LineConfig) :
    (ln.start cfg).driver.restartsLeft = cfg.restartBudget ∧ (ln.start cfg).driver.roundsSinceUp = 0 ∧
      (ln.start cfg).driver.state = (if cfg.enabledAtStart then .settling else .off) := by
  unfold Line.start
  dsimp only
  split
  · exact ⟨rfl, rfl, rfl⟩
  · exact ⟨rfl, rfl, rfl⟩

theorem Line.Touched.formed {v : Bool} {y : LineCtx} (h : Line.Touched v x y c a b) (ha : a.formed x.cfg)
    (hbudgets : v = true ∨ a.xcvr.state ≠ .idle ∨ a.engine.state = .exchanging → 1 ≤ x.cfg.missBudget ∧ 1 ≤ x.cfg.dropLimit) : b.formed y.cfg := by
  cases h with
  | same hy => exact hy ▸ ha
  | happening b hy hbusy hb =>
    obtain ⟨hmiss, hdrop⟩ := hbudgets hbusy
    exact hy ▸ hb.formed ha hmiss hdrop
  | reserved side n hy => subst hy; exact ha.of_eq rfl rfl rfl
  | queued side r hy => subst hy; exact ha.of_eq rfl rfl rfl
  | frozen hy => subst hy; exact ha.of_eq rfl rfl rfl
  | reset hy => exact Line.formed_of_cleared (fun n => ⟨_, a.entry_resetLine n⟩) (Nat.zero_le _) rfl
  | started =>
    obtain ⟨hrestarts, hrounds, -⟩ := a.start_driver y.cfg
    exact Line.formed_of_cleared (fun n => ⟨_, a.entry_start _ n⟩) (Nat.le_of_eq hrestarts) hrounds
  | initial hc => exact Line.formed_of_cleared (fun n => ⟨Entry.initial, Line.entry_initial n⟩) (Nat.zero_le _) rfl

theorem Line.Moved.formed (h : Line.Moved x a b) (ha : a.formed x.cfg) : b.formed x.cfg := by
  cases h with
  | same => exact ha
  | worked d b hstate hunit => exact Line.Unit.formed (x := x) hunit ha
  | granted b cache cache' hstate hgrant => exact hgrant.formed ha
  | unbarred hstate =>
    obtain ⟨hwf, h1, h2⟩ := ha
    exact ⟨fun n => by rw [Line.entry_clearBarred]; exact Entry.unbar_wf (hwf n), h1, h2⟩
  | relabelled =>
    obtain ⟨st, heq, -⟩ := a.relabel_eq
    rw [heq]
    exact ha.of_eq rfl rfl rfl
  | _ => exact ha.of_eq rfl rfl rfl

end

theorem State.Sound.formed {s : State} (h : s.Sound) (l : LineId) : (s.line l).formed (s.lineConfig l) :=
  ⟨h.entries l, h.drivers l⟩

/-- Settles O11: every effect and every move leaves each line's entries and driver counts well formed. -/
theorem stepKeepsEntriesAndDrivers : Obligations.StepKeepsEntriesAndDrivers := by
  intro s t hsound hstep
  have hformed := step_establishesLines (P := fun x ln => ln.formed x.cfg)
    (fun s l hs => (hs.formed l).of_eq rfl rfl rfl) (fun s l hs => hs.formed l)
    (fun s u c l hs _ htouched => htouched.formed (hs.formed l)
      (fun hbusy => hs.budgets_of_loaded (hs.serving_of_busy hbusy).2 l))
    (fun x a b ha hab => hab.formed ha) hsound hstep
  exact ⟨fun l => (hformed l).1, fun l => (hformed l).2⟩

end Sys2Proof.Machine
end

section
/-! PROOFS. The toggles of the Node Table change only by a VALID ACK (R14, R17, R18). -/

namespace Sys2Proof.Machine

section
variable {x : LineCtx} {c : Instr} {a b : Line}

/-- The end of an exchange that was not cut off has the toggles that its result gives the entry addressed, and those of every
other entry as they were (R14). -/
theorem Line.exchangeEnd_toggles {res : ExchangeResult} {p : Purpose} {f : Frame} (hp : a.engine.purpose = some p)
    (hf : a.xcvr.frame = some f) (hres : res.tripped = false) (n : Node) :
    (if n = f.node then ((a.entry f.node).afterExchange x.cfg f.kind res).1 else a.entry n).SameToggles
      ((a.exchangeEnd x res).entry n) := by
  have happlied : (a.exchangeApplied x f res).entry n =
      if n = f.node then ((a.entry f.node).afterExchange x.cfg f.kind res).1 else a.entry n :=
    (a.exchangeApplied_leaves x f res).1 n
  rw [← happlied]
  obtain ⟨hnone | hnone, -⟩ | ⟨p', f', -, hf', ⟨hres', -⟩ | ⟨-, hend⟩⟩ := Line.exchangeEnd_cases x .running a res
  · rw [hp] at hnone; cases hnone
  · rw [hf] at hnone; cases hnone
  · rw [hres] at hres'; cases hres'
  · obtain rfl : f' = f := Option.some.inj (hf'.symm.trans hf)
    obtain hquiet | ⟨k, -, hquiet⟩ | ⟨-, k, -, h⟩ := hend
    · exact Line.Unit.sameToggles hquiet.unit n
    · have hset : (a.exchangeApplied x f' res).SameToggles ((a.exchangeApplied x f' res).setEntry k.node
          { (a.exchangeApplied x f' res).entry k.node with offerLength := none }) := .setEntry ⟨rfl, rfl⟩
      exact hset.trans (Line.Unit.sameToggles hquiet.unit) n
    · exact Line.SameToggles.of_table (by rw [h]) n

theorem Line.exchangeEnd_failed_toggles {res : ExchangeResult} (hres : res.reply = none) :
    a.SameToggles (a.exchangeEnd x res) := by
  obtain ⟨-, h⟩ | ⟨p, f, hp, hf, ⟨-, h⟩ | ⟨htripped, -⟩⟩ := Line.exchangeEnd_cases x .running a res
  · exact .of_table (by rw [h]; rfl)
  · exact .of_table (by rw [h]; simp)
  · intro n
    have h := Line.exchangeEnd_toggles (x := x) hp hf htripped n
    split at h
    · next hn =>
      subst hn
      have hfailed := Entry.afterExchange_failed_toggles (a.entry f.node) x.cfg f.kind res hres
      exact ⟨h.1.trans hfailed.1, h.2.trans hfailed.2⟩
    · exact h

theorem Line.trip_toggles (ln : Line) (x : LineCtx) : ln.SameToggles (ln.trip x) := by
  unfold Line.trip
  dsimp only
  have hleft : ∀ m : Line, m.table = ln.table → ∀ k : Line, m.SameToggles k → ln.SameToggles k :=
    fun m hm k hk => Line.SameToggles.trans (.of_table hm) hk
  split
  · exact .of_table (by split <;> rfl)
  · exact hleft _ (by split <;> rfl) _ (Line.exchangeEnd_failed_toggles rfl)

/-- A happening keeps the toggles, or is a VALID reply to the frame on the wire. -/
theorem Line.Happening.toggles (h : Line.Happening x c a b) : a.SameToggles b ∨
    ∃ rx f r, c = .endOfReply x.line rx ∧ a.xcvr.state = .receiving ∧ a.xcvr.frame = some f ∧ judge f rx = some r ∧
      b = a.exchangeEnd x { reply := some r, attempts := a.xcvr.attempts, garbled := a.xcvr.garbled } := by
  cases h with
  | trip hst => exact .inl (a.trip_toggles x)
  | failed g hst => exact .inl (Line.exchangeEnd_failed_toggles rfl)
  | valid rx f r hc hst hf hjudge => exact .inr ⟨rx, f, r, hc, hst, hf, hjudge, rfl⟩
  | accessEnd b hst haccess hunit => exact .inl (Line.Unit.sameToggles (a := a.endWork) hunit)
  | _ => exact .inl (.of_table rfl)

theorem Line.Touched.toggles {v : Bool} {y : LineCtx} (h : Line.Touched v x y c a b) (hpower : c ≠ .powerOn) :
    a.SameToggles b ∨ ∃ rx f r, c = .endOfReply x.line rx ∧ a.xcvr.state = .receiving ∧ a.xcvr.frame = some f ∧
      judge f rx = some r ∧
      b = a.exchangeEnd x { reply := some r, attempts := a.xcvr.attempts, garbled := a.xcvr.garbled } := by
  cases h with
  | happening b hy hbusy hb => exact hb.toggles
  | reset hy => exact .inl (fun n => by simp [Entry.SameToggles])
  | started => exact .inl (fun n => by simp [Entry.SameToggles])
  | initial hc => exact absurd hc hpower
  | _ => exact .inl (.of_table rfl)

end

/-- What a VALID reply leaves the toggles of a sound line's entry as (R14, R17, R18). -/
theorem State.Sound.valid_toggles {s : State} (h : s.Sound) {l : LineId} {rx : List RxByte} {f : Frame} {r : Reply}
    (hst : (s.line l).xcvr.state = .receiving) (hf : (s.line l).xcvr.frame = some f) (hjudge : judge f rx = some r)
    (n : Node) :
    let e := (s.line l).entry n
    let e' := ((s.line l).exchangeEnd (s.ctx l)
      { reply := some r, attempts := (s.line l).xcvr.attempts, garbled := (s.line l).xcvr.garbled }).entry n
    if n = f.node ∧ r.kind = .ack then
      e'.sendToggle = (if f.kind = .identify then false else if f.kind.carriesSend then !e.sendToggle else e.sendToggle) ∧
      e'.recvToggle = (if f.kind = .identify then false else if f.kind.carriesRecv then !e.recvToggle else e.recvToggle)
    else e.SameToggles e' := by
  obtain ⟨-, -, -, hpurpose, -⟩ := h.wire l (by simp [hst])
  obtain ⟨p, hp⟩ := Option.isSome_iff_exists.mp hpurpose
  have hkept := Line.exchangeEnd_toggles (x := s.ctx l)
    (res := { reply := some r, attempts := (s.line l).xcvr.attempts, garbled := (s.line l).xcvr.garbled }) hp hf rfl n
  dsimp only
  by_cases hn : n = f.node
  · subst hn
    rw [if_pos rfl] at hkept
    obtain ⟨hsend, hrecv⟩ := Entry.afterExchange_toggles ((s.line l).entry f.node) (s.ctx l).cfg f.kind
      { reply := some r, attempts := (s.line l).xcvr.attempts, garbled := (s.line l).xcvr.garbled } rfl
      (judge_identify_ack hjudge)
    by_cases hack : r.kind = .ack
    · rw [if_pos ⟨rfl, hack⟩, hkept.1, hkept.2, hsend, hrecv, if_pos hack, if_pos hack]
      exact ⟨rfl, rfl⟩
    · rw [if_neg (fun h => hack h.2)]
      rw [if_neg hack] at hsend hrecv
      exact ⟨hkept.1.trans hsend, hkept.2.trans hrecv⟩
  · rw [if_neg (fun h => hn h.1)]
    rwa [if_neg hn] at hkept

/-- Settles O13: the toggles that a command leaves are those of its own effect on the line, which are those before it unless
it ends a reply that is VALID. -/
theorem togglesChangeOnlyByAValidAck : Obligations.TogglesChangeOnlyByAValidAck := by
  intro c s t hsound hpower hexec l n e e'
  obtain ⟨u, heffect, hfollows⟩ := State.After.of_exec hexec
  have hsame : (u.line l).SameToggles (t.line l) := by
    obtain rfl | rfl := hfollows
    · exact .refl _
    · exact (State.settleFrom_follows s u).toggles l
  constructor
  · intro rx f r hc hst hf hnode hjudge hack
    have hvalid := hsound.valid_toggles hst hf hjudge n
    rw [if_pos ⟨hnode.symm, hack⟩] at hvalid
    have hnext : t = s.finish l ((s.line l).exchangeEnd (s.ctx l)
        { reply := some r, attempts := (s.line l).xcvr.attempts, garbled := (s.line l).xcvr.garbled }) := by
      rw [hc, exec_endOfReply, if_pos hst, Line.replyEnded_of_valid hf hjudge] at hexec
      exact (Host.Outcome.next.inj hexec).symm
    have hfinish : ((s.line l).exchangeEnd (s.ctx l)
        { reply := some r, attempts := (s.line l).xcvr.attempts, garbled := (s.line l).xcvr.garbled }).SameToggles
          (t.line l) := by
      rw [hnext, State.finish_of_not_exchanging _ _ _ (by simp [(Line.exchangeEnd_leaves _ _ _).2.1])]
      have h := (State.settleFrom_follows s (s.setLine l ((s.line l).exchangeEnd (s.ctx l)
        { reply := some r, attempts := (s.line l).xcvr.attempts, garbled := (s.line l).xcvr.garbled }))).toggles l
      rwa [State.line_setLine_self] at h
    exact ⟨(hfinish n).1.trans hvalid.1, (hfinish n).2.trans hvalid.2⟩
  · intro hchanged
    obtain htoggles | ⟨rx, f, r, hc, hst, hf, hjudge, hend⟩ := (heffect.touched l).toggles hpower
    · obtain ⟨hsend, hrecv⟩ := htoggles.trans hsame n
      obtain hchanged | hchanged := hchanged
      · exact absurd hsend hchanged
      · exact absurd hrecv hchanged
    · have hvalid := hsound.valid_toggles hst hf hjudge n
      rw [← hend] at hvalid
      split at hvalid
      · next hack => exact ⟨rx, f, r, hc, hst, hf, hack.1.symm, hjudge, hack.2⟩
      · obtain ⟨hsend, hrecv⟩ := hsame n
        obtain hchanged | hchanged := hchanged
        · exact absurd (hsend.trans hvalid.1) hchanged
        · exact absurd (hrecv.trans hvalid.2) hchanged

end Sys2Proof.Machine
end

section
/-! PROOFS. The records on their way to the host: within a step they keep their order, and each reaches the writer (R93, R148,
R150, R151). -/

namespace Sys2Proof.Machine

/-! ## The order of records within a step -/

/-- From the records `a` to the records `b` of one source: some were added behind, and at most the oldest went to a writer
that was free, which then writes it. -/
def State.Passes (s t : State) (a b : List Completion) : Prop :=
  ∃ more, a ++ more = b ∨ ∃ c, a ++ more = c :: b ∧ s.writer.write = none ∧ t.writing = some c

theorem State.Passes.of_eq (s t : State) {a b : List Completion} (h : b = a) : s.Passes t a b := ⟨[], .inl (by simp [h])⟩

theorem State.Passes.of_grows (s t : State) {a b : Line} (h : a.Grows b) : s.Passes t a.outbox b.outbox := by
  obtain ⟨more, h⟩ := h
  exact ⟨more, .inl h.symm⟩

/-- A record of the source is still on its way, or is the one being written. -/
theorem State.Passes.mem {s t : State} {a b : List Completion} (h : s.Passes t a b) {c : Completion} (hc : c ∈ a) :
    c ∈ b ∨ t.writing = some c := by
  obtain ⟨more, h | ⟨k, h, -, hk⟩⟩ := h
  · exact .inl (h ▸ List.mem_append_left _ hc)
  · obtain rfl | hb := List.mem_cons.mp (h ▸ List.mem_append_left more hc)
    · exact .inr hk
    · exact .inl hb

/-- The records of every source pass, and a record being written stays until its write ends. -/
structure State.Ordered (s t : State) : Prop where
  outbox : ∀ l, s.Passes t (s.line l).outbox (t.line l).outbox
  service : s.Passes t s.serviceOut t.serviceOut
  write : s.writer.write.isSome → t.writer.write = s.writer.write

theorem State.writing_isSome {s : State} {c : Completion} (h : s.writing = some c) : s.writer.write.isSome := by
  obtain ⟨w, hw, -⟩ := Option.map_eq_some_iff.mp h
  simp [hw]

theorem State.Passes.trans {s t u : State} (hwrite : t.writer.write.isSome → u.writer.write = t.writer.write)
    (hfree : s.writer.write.isSome → t.writer.write = s.writer.write)
    {a b c : List Completion} (h : s.Passes t a b) (h' : t.Passes u b c) : s.Passes u a c := by
  obtain ⟨more, h | ⟨k, h, hs, hk⟩⟩ := h
  · obtain ⟨more', h' | ⟨k', h', ht, hk'⟩⟩ := h'
    · exact ⟨more ++ more', .inl (by rw [← List.append_assoc, h, h'])⟩
    · have hnone : s.writer.write = none := by
        cases hw : s.writer.write with
        | none => rfl
        | some w => rw [hfree (by simp [hw]), hw] at ht; cases ht
      exact ⟨more ++ more', .inr ⟨k', by rw [← List.append_assoc, h, h'], hnone, hk'⟩⟩
  · obtain ⟨more', h' | ⟨k', -, ht, -⟩⟩ := h'
    · have hu : u.writing = some k := by
        unfold State.writing at hk ⊢
        rw [hwrite (State.writing_isSome hk)]
        exact hk
      exact ⟨more ++ more', .inr ⟨k, by rw [← List.append_assoc, h, List.cons_append, h'], hs, hu⟩⟩
    · have := State.writing_isSome hk
      rw [ht] at this
      cases this

theorem State.Ordered.refl (s : State) : s.Ordered s :=
  ⟨fun _ => .of_eq s s rfl, .of_eq s s rfl, fun _ => rfl⟩

theorem State.Ordered.trans {s t u : State} (h : s.Ordered t) (h' : t.Ordered u) : s.Ordered u where
  outbox l := (h.outbox l).trans h'.write h.write (h'.outbox l)
  service := h.service.trans h'.write h.write h'.service
  write hs := by
    have ht := h.write hs
    rw [← ht] at hs
    exact (h'.write hs).trans ht

/-- Records are only added, and the writer is left alone. -/
theorem State.Ordered.of_grows {s t : State} (hlines : ∀ l, (s.line l).Grows (t.line l))
    (hservice : t.serviceOut = s.serviceOut) (hwrite : t.writer.write = s.writer.write) : s.Ordered t :=
  ⟨fun l => .of_grows s t (hlines l), .of_eq s t hservice, fun _ => hwrite⟩

/-- A relation that holds of every line with itself holds of all lines where one is replaced by a related one. -/
theorem State.lines_setLine {R : Line → Line → Prop} (hrefl : ∀ a, R a a) {s : State} {l : LineId} {ln : Line}
    (h : R (s.line l) ln) (m : LineId) : R (s.line m) ((s.setLine l ln).line m) := by
  rw [State.line_setLine]
  split
  · next he => subst he; exact h
  · exact hrefl _

/-! ## Moves -/

section
variable {s t : State}

theorem State.reserve_grows (s : State) (r : RingId) (m : LineId) : (s.line m).Grows ((s.reserve r).line m) := by
  obtain ⟨l, side, -, h⟩ | ⟨-, h⟩ := s.reserve_cases r <;> rw [h]
  · refine State.lines_setLine Line.Grows.refl (.of_eq ?_ ?_) m <;> simp [Engine.setReserved_eq]
  · exact .refl _

theorem State.fetchBegin_ordered (h : s.fetchBegin = some t) : s.Ordered t := by
  obtain ⟨-, -, -, -, hwriter, hslot, howed, -⟩ := State.fetchBegin_leaves h
  obtain ⟨-, r, -, rfl⟩ := State.fetchBegin_cases h
  exact .of_grows (State.reserve_grows _ r) (by simp only [State.serviceOut, hslot, howed]) (by rw [hwriter])

theorem State.engineMove_ordered {l : LineId} (h : s.engineMove l = some t) : s.Ordered t := by
  obtain ⟨ln, cache, hstep, rfl⟩ := State.engineMove_cases h
  have hgrows : (s.line l).Grows ln := by
    obtain ⟨-, ⟨-, d, hunit⟩ | hgrant⟩ := Line.engineStep_unit hstep
    · exact hunit.grows
    · exact hgrant.grows
  exact .of_grows (fun m => State.lines_setLine (s := s) Line.Grows.refl hgrows m) rfl rfl

theorem State.servicePlace_ordered (h : s.servicePlace = some t) : s.Ordered t := by
  obtain ⟨c, rest, hslot, howed, rfl⟩ := State.servicePlace_cases h
  exact .of_grows (fun _ => .refl _) (by simp [State.serviceOut, hslot, howed]) rfl

/-- The writer takes the oldest record of one source, and only when it writes none (R150). -/
theorem State.take_ordered {fresh : Bool} (h : s.take fresh = some t) : s.Ordered t := by
  obtain ⟨hmay, k, c, n, u, rfl, hsource⟩ := State.take_source h
  obtain ⟨-, hfree, -⟩ := s.mayTake_iff.mp hmay
  obtain ⟨l, hslot, rfl⟩ | ⟨hslot, rfl⟩ := hsource
  · refine ⟨fun m => ?_, .of_eq _ _ rfl, fun hs => absurd hs (by simp [hfree])⟩
    show State.Passes _ _ _ (State.line (s.setLine l _) m).outbox
    rw [State.line_setLine]
    split
    · next he =>
      subst he
      exact ⟨[], .inr ⟨c, by simp [Line.outbox, hslot], hfree, rfl⟩⟩
    · exact .of_eq _ _ rfl
  · exact ⟨fun m => .of_eq _ _ rfl, ⟨[], .inr ⟨c, by simp [State.serviceOut, hslot], hfree, rfl⟩⟩,
      fun hs => absurd hs (by simp [hfree])⟩

theorem State.enterHalted_ordered (s : State) : s.Ordered s.enterHalted := by
  rw [State.enterHalted_eq]
  refine .of_grows (fun m => ?_) rfl rfl
  show (s.line m).Grows ((s.mapLines Line.clearBarred).line m)
  rw [State.line_mapLines]
  exact .of_eq rfl rfl

theorem State.relabel_ordered (s : State) : s.Ordered (s.mapLines Line.relabel) := by
  refine .of_grows (fun m => ?_) rfl rfl
  obtain ⟨st, h, -⟩ := (s.line m).relabel_eq
  rw [State.line_mapLines, h]
  exact .of_eq rfl rfl

end

/-- What follows within a step keeps the order of every source's records. -/
theorem State.settleFrom_ordered (before s : State) : s.Ordered (State.settleFrom before s) :=
  State.settleFrom_keeps (P := s.Ordered) before (fun _ _ hs h => hs.trans (State.fetchBegin_ordered h))
    (fun _ _ _ hs h => hs.trans (State.engineMove_ordered h)) (fun _ _ hs h => hs.trans (State.servicePlace_ordered h))
    (fun _ _ _ hs h => hs.trans (State.take_ordered h)) (fun _ hs _ => hs.trans (State.enterHalted_ordered _))
    (fun _ hs => hs.trans (State.relabel_ordered _)) s (.refl s)

/-- A record that a line has produced is on its way when what follows has followed. -/
theorem State.settleFrom_posts (before : State) {s : State} {l : LineId} {c : Completion} (h : c ∈ (s.line l).outbox) :
    (State.settleFrom before s).posts l c :=
  ((State.settleFrom_ordered before s).outbox l).mem h

/-- A record that is owed to the service slot is on its way when what follows has followed. -/
theorem State.settleFrom_servicePosts (before : State) {s : State} {c : Completion} (h : c ∈ s.serviceOut) :
    (State.settleFrom before s).servicePosts c :=
  (State.settleFrom_ordered before s).service.mem h

/-! ## Effects -/

section
variable {x y : LineCtx} {c : Instr} {a b : Line}

theorem Line.exchangeApplied_grows (a : Line) (x : LineCtx) (f : Frame) (res : ExchangeResult) :
    a.Grows (a.exchangeApplied x f res) :=
  .of_owed (by simp) (a.exchangeApplied_leaves x f res).2.2.2.2.2.2.2.2.2.2.2.2.2.2.2.2.2

theorem Line.exchangeEnd_grows (a : Line) (x : LineCtx) (res : ExchangeResult) : a.Grows (a.exchangeEnd x res) := by
  obtain ⟨-, h⟩ | ⟨p, f, -, -, ⟨-, h⟩ | ⟨-, hend⟩⟩ := Line.exchangeEnd_cases x .running a res
  · rw [h]; exact .of_eq rfl rfl
  · rw [h]; exact .of_eq (by simp) (by simp)
  · have happlied := a.exchangeApplied_grows x f res
    obtain hquiet | ⟨k, -, hquiet⟩ | ⟨-, k, -, h⟩ := hend
    · exact happlied.trans hquiet.unit.grows
    · exact happlied.trans (Line.Grows.trans (.of_eq rfl rfl) hquiet.unit.grows)
    · rw [h]; exact happlied.trans (.of_eq rfl rfl)

theorem Line.trip_grows (ln : Line) (x : LineCtx) : ln.Grows (ln.trip x) := by
  unfold Line.trip
  dsimp only
  split
  · split <;> exact .of_eq rfl rfl
  · refine Line.Grows.trans ?_ (Line.exchangeEnd_grows _ x _)
    split <;> exact .of_eq rfl rfl

theorem Line.Happening.grows (h : Line.Happening x c a b) : a.Grows b := by
  cases h with
  | trip hst => exact a.trip_grows x
  | failed g hst => exact a.exchangeEnd_grows x _
  | valid rx f r hc hst hf hjudge => exact a.exchangeEnd_grows x _
  | accessEnd b hst haccess hunit => exact Line.Grows.trans (.of_eq rfl rfl) hunit.grows
  | _ => exact .of_eq rfl rfl

end

section
variable {s u : State} {c : Instr}

/-- An effect adds records behind those on their way, and only the end of a write touches the writer; power-on, RESET and the
entry to RUNNING discard what there is. -/
theorem State.Effect.ordered (h : s.Effect c u) (hwf : c.wellFormed = true) (hpower : c ≠ .powerOn) (hreset : c ≠ .reset)
    (hload : ∀ read, c ≠ .configReadDone read) :
    (∀ l, (s.line l).Grows (u.line l)) ∧ (∃ more, u.serviceOut = s.serviceOut ++ more) ∧
      ((∀ write, c ≠ .completionWriteDone write) → u.writer.write = s.writer.write) := by
  have hsame : ∀ {v : State}, v.lines = s.lines → ∀ l, (s.line l).Grows (v.line l) := fun hv l => by
    rw [State.line_congr hv l]; exact .refl _
  cases h with
  | window u hn hu =>
    exact ⟨hsame (by rw [hu]), ⟨[], by rw [hu]; simp [State.serviceOut]⟩, fun _ => by rw [hu]⟩
  | powerOn hc => exact absurd hc hpower
  | reset hn hacts =>
    obtain hc | ⟨hc, -⟩ := hacts
    · exact absurd hc hreset
    · rw [hc] at hwf; cases hwf
  | loadBegins hn hd =>
    rw [State.startCommand_of_halted hd]
    exact ⟨hsame rfl, ⟨[], by simp [State.serviceOut]⟩, fun _ => rfl⟩
  | loadAbandoned | loadFailed => exact ⟨hsame rfl, ⟨[], (List.append_nil _).symm⟩, fun _ => rfl⟩
  | started cfg hn hd hread hgood =>
    obtain ⟨read, hread⟩ := hread
    exact absurd hread (hload read)
  | stops hn hd =>
    exact ⟨hsame rfl, ⟨s.cache.map (fun b => returnedRecord .cancelled b.id), by simp [State.serviceOut, State.returnCache]⟩,
      fun _ => rfl⟩
  | fetched r tail u hn hd hu =>
    obtain ⟨-, -, -, -, hwriter, hslot, howed, -⟩ := State.fetchBegin_leaves hu
    obtain ⟨-, q, -, rfl⟩ := State.fetchBegin_cases hu
    exact ⟨State.reserve_grows _ q, ⟨[], by simp only [State.serviceOut, hslot, howed]; simp⟩, fun _ => by rw [hwriter]; rfl⟩
  | line l ln hn hbusy hln =>
    exact ⟨State.lines_setLine Line.Grows.refl hln.grows, ⟨[], by simp [State.serviceOut]⟩, fun _ => rfl⟩
  | taken r data hc hf =>
    cases hr : ringTarget r with
    | some target =>
      obtain ⟨l, side⟩ := target
      rw [State.recordTaken_of_request hr]
      refine ⟨State.lines_setLine (s := s) Line.Grows.refl ?_, ⟨[], by simp [State.serviceOut, State.indexMoved]⟩, fun _ => rfl⟩
      cases side <;> exact .of_eq rfl rfl
    | none =>
      rw [State.recordTaken_of_supply hr]
      obtain ⟨-, -, h⟩ | ⟨-, -, h⟩ | ⟨-, h⟩ := (s.indexMoved r).supplyTaken_cases (SupplyRecord.ofBytes (exactly 16 data)) <;>
        rw [h]
      · exact ⟨hsame rfl, ⟨[], by simp [State.serviceOut, State.indexMoved]⟩, fun _ => rfl⟩
      · exact ⟨hsame rfl, ⟨_, by simp only [State.serviceOut, ← List.append_assoc]; rfl⟩, fun _ => rfl⟩
      · exact ⟨hsame rfl, ⟨_, by simp only [State.serviceOut, ← List.append_assoc]; rfl⟩, fun _ => rfl⟩
  | readFailed r hn hf =>
    obtain ⟨l, side, -, h⟩ | ⟨-, h⟩ := s.release_cases r <;> rw [h]
    · refine ⟨State.lines_setLine (s := s) Line.Grows.refl ?_, ⟨[_], by simp [State.serviceOut, State.breakRing]; rfl⟩,
        fun _ => rfl⟩
      cases side <;> exact .of_eq rfl rfl
    · exact ⟨hsame rfl, ⟨[_], by simp [State.serviceOut, State.breakRing]; rfl⟩, fun _ => rfl⟩
  | progressFailed r hn hf =>
    exact ⟨hsame rfl, ⟨[_], by simp [State.serviceOut, State.breakRing]; rfl⟩, fun _ => rfl⟩
  | written hc hserving hwrite =>
    refine ⟨hsame ?_, ⟨[], ?_⟩, fun hnot => absurd hc (hnot _)⟩
    · unfold State.announceDue; split <;> rfl
    · unfold State.announceDue; split <;> simp [State.serviceOut, State.countWritten]
  | faulted hc hserving hwrite =>
    refine ⟨fun l => ?_, ⟨[], by simp [State.serviceOut, State.enterFaulted]⟩, fun hnot => absurd hc (hnot _)⟩
    have hline : s.enterFaulted.line l = (s.line l).freeze := s.line_mapLines Line.freeze l
    rw [hline]
    exact .of_eq rfl rfl
  | _ => exact ⟨hsame rfl, ⟨[], by simp [State.serviceOut]⟩, fun _ => rfl⟩

end

/-- Settles O16: a command's own effect adds records, and what follows passes them to the writer in order. -/
theorem recordsKeepTheirOrder : Obligations.RecordsKeepTheirOrder := by
  intro c s t hsound hwf hpower hreset hload hexec
  obtain ⟨u, heffect, hfollows⟩ := State.After.of_exec hexec
  obtain ⟨hgrows, ⟨added, hservice⟩, hwrite⟩ := heffect.ordered hwf hpower hreset hload
  have hordered : u.Ordered t := by
    obtain rfl | rfl := hfollows
    · exact .refl _
    · exact State.settleFrom_ordered s u
  refine ⟨fun l => ?_, ?_, fun hnot hs => ?_⟩
  · obtain ⟨new, hnew⟩ := hgrows l
    obtain ⟨more, h | ⟨a, h, -, ha⟩⟩ := hordered.outbox l
    · exact ⟨new ++ more, .inl (by rw [← List.append_assoc, ← hnew, h])⟩
    · exact ⟨new ++ more, .inr ⟨a, by rw [← List.append_assoc, ← hnew, h], ha⟩⟩
  · obtain ⟨more, h | ⟨a, h, -, ha⟩⟩ := hordered.service
    · exact ⟨added ++ more, .inl (by rw [← List.append_assoc, ← hservice, h])⟩
    · exact ⟨added ++ more, .inr ⟨a, by rw [← List.append_assoc, ← hservice, h], ha⟩⟩
  · have hu := hwrite hnot
    exact (hordered.write (by rw [hu]; exact hs)).trans hu

end Sys2Proof.Machine
end

section
/-! PROOFS. Every record taken is answered once and every buffer taken is returned once: what each move and each effect does
to their numbers (R129, R144). -/

namespace Sys2Proof.Machine

/-! ## Sums over the lines -/

/-- The sum of a count over the four lines. -/
def State.sumLines (s : State) (f : Line → Nat) : Nat := ((List.finRange 4).map (fun l => f (s.line l))).sum

theorem State.unanswered_eq (s : State) : s.unanswered =
    s.sumLines Line.requestsHeld + ofType .result s.serviceOut + ofType .result s.writing.toList := rfl

theorem State.unreturned_eq (s : State) : s.unreturned =
    s.cache.length + s.sumLines Line.buffersHeld + ofType .arrival s.serviceOut + ofType .arrival s.writing.toList := rfl

theorem State.sumLines_congr {s t : State} {f : Line → Nat} (h : ∀ l, f (t.line l) = f (s.line l)) :
    t.sumLines f = s.sumLines f := by
  simp [State.sumLines, h]

theorem State.sumLines_setLine (s : State) (l : LineId) (ln : Line) (f : Line → Nat) :
    (s.setLine l ln).sumLines f + f (s.line l) = s.sumLines f + f ln := by
  have hfour : ∀ u : State, u.sumLines f = f (u.line 0) + f (u.line 1) + f (u.line 2) + f (u.line 3) := fun u => by
    simp [State.sumLines, List.finRange_succ]
    omega
  rw [hfour, hfour]
  fin_cases l <;> simp [State.line_setLine] <;> omega

theorem State.unanswered_setLine (s : State) (l : LineId) (ln : Line) :
    (s.setLine l ln).unanswered + (s.line l).requestsHeld = s.unanswered + ln.requestsHeld := by
  have h := s.sumLines_setLine l ln Line.requestsHeld
  simp only [State.unanswered_eq, State.serviceOut, State.writing, State.setLine_serviceSlot, State.setLine_serviceOwed,
    State.setLine_writer]
  omega

theorem State.unreturned_setLine (s : State) (l : LineId) (ln : Line) :
    (s.setLine l ln).unreturned + (s.line l).buffersHeld = s.unreturned + ln.buffersHeld := by
  have h := s.sumLines_setLine l ln Line.buffersHeld
  simp only [State.unreturned_eq, State.serviceOut, State.writing, State.setLine_serviceSlot, State.setLine_serviceOwed,
    State.setLine_writer, State.setLine_cache]
  omega

/-! ## What conserves both numbers -/

/-- The request records unanswered and the buffers unreturned are as many as before. -/
def State.Conserves (s t : State) : Prop := t.unanswered = s.unanswered ∧ t.unreturned = s.unreturned

theorem State.Conserves.refl (s : State) : s.Conserves s := ⟨rfl, rfl⟩

theorem State.Conserves.trans {s t u : State} (h : s.Conserves t) (h' : t.Conserves u) : s.Conserves u :=
  ⟨h'.1.trans h.1, h'.2.trans h.2⟩

theorem State.Conserves.of_lines {s t : State} (hlines : ∀ l, (s.line l).Conserves (t.line l))
    (hservice : t.serviceOut = s.serviceOut) (hwriting : t.writing = s.writing) (hcache : t.cache = s.cache) :
    s.Conserves t := by
  constructor
  · rw [State.unanswered_eq, State.unanswered_eq, hservice, hwriting, State.sumLines_congr (fun l => (hlines l).1)]
  · rw [State.unreturned_eq, State.unreturned_eq, hservice, hwriting, hcache, State.sumLines_congr (fun l => (hlines l).2)]

/-- Changes outside the lines, the service slot and its owed list, the record being written and the cache. -/
theorem State.Conserves.of_eq {s t : State} (hlines : t.lines = s.lines) (hservice : t.serviceOut = s.serviceOut)
    (hwriting : t.writing = s.writing) (hcache : t.cache = s.cache) : s.Conserves t :=
  .of_lines (fun l => by rw [State.line_congr hlines l]; exact .refl _) hservice hwriting hcache

theorem State.Conserves.setLine {s : State} {l : LineId} {ln : Line} (h : (s.line l).Conserves ln) :
    s.Conserves (s.setLine l ln) := by
  have h1 := s.unanswered_setLine l ln
  have h2 := s.unreturned_setLine l ln
  obtain ⟨hrequests, hbuffers⟩ := h
  exact ⟨by omega, by omega⟩

/-! ## Moves -/

section
variable {s t : State}

theorem State.reserve_conserves (s : State) (r : RingId) : s.Conserves (s.reserve r) := by
  obtain ⟨l, side, -, h⟩ | ⟨-, h⟩ := s.reserve_cases r <;> rw [h]
  · exact .setLine (.of_eq (by simp [Engine.setReserved_eq]) (by simp [Engine.setReserved_eq])
      (by simp [Engine.setReserved_eq]) (by simp [Engine.setReserved_eq]) (by simp [Engine.setReserved_eq]))
  · exact .of_eq rfl rfl rfl rfl

theorem State.fetchBegin_conserves (h : s.fetchBegin = some t) : s.Conserves t := by
  obtain ⟨-, r, -, rfl⟩ := State.fetchBegin_cases h
  exact State.Conserves.trans
    (t := { s with fetcher := { pointer := r, fetch := some { ring := r, phase := .read } } })
    (.of_eq rfl rfl rfl rfl) (State.reserve_conserves _ r)

theorem State.engineMove_conserves {l : LineId} (h : s.engineMove l = some t) : s.Conserves t := by
  obtain ⟨ln, cache, hstep, rfl⟩ := State.engineMove_cases h
  obtain ⟨-, ⟨rfl, d, hunit⟩ | hgrant⟩ := Line.engineStep_unit hstep
  · exact .setLine hunit.conserves
  · obtain ⟨hrequests, hbuffers⟩ := hgrant.conserves
    have h1 := s.unanswered_setLine l ln
    have h2 := s.unreturned_setLine l ln
    constructor
    · show (s.setLine l ln).unanswered = s.unanswered
      omega
    · have hcache : ({ s.setLine l ln with cache := cache } : State).unreturned + s.cache.length =
          (s.setLine l ln).unreturned + cache.length := by
        simp only [State.unreturned, State.setLine_cache]
        simp only [State.line, State.serviceOut, State.writing]
        omega
      omega

theorem State.servicePlace_conserves (h : s.servicePlace = some t) : s.Conserves t := by
  obtain ⟨c, rest, hslot, howed, rfl⟩ := State.servicePlace_cases h
  exact .of_eq rfl (by simp [State.serviceOut, hslot, howed]) rfl rfl

/-- The record taken goes from its source to the writer, which wrote none (R150). -/
theorem State.take_conserves {fresh : Bool} (h : s.take fresh = some t) : s.Conserves t := by
  obtain ⟨hmay, k, c, n, u, rfl, hsource⟩ := State.take_source h
  obtain ⟨-, hfree, -⟩ := s.mayTake_iff.mp hmay
  have hnone : s.writing = none := by simp [State.writing, hfree]
  obtain ⟨l, hslot, rfl⟩ | ⟨hslot, rfl⟩ := hsource
  · have h1 := s.unanswered_setLine l { s.line l with engine := { (s.line l).engine with slot := none } }
    have h2 := s.unreturned_setLine l { s.line l with engine := { (s.line l).engine with slot := none } }
    simp only [Line.requestsHeld, Line.buffersHeld, Line.heldBuffers, Line.outbox, hslot, Option.toList_none,
      Option.toList_some, List.nil_append, List.singleton_append, ofType_cons] at h1 h2
    simp only [State.unanswered_eq, State.unreturned_eq, State.writing, State.setLine_writer, hfree, Option.map_none,
      Option.toList_none, ofType_nil, State.serviceOut, State.setLine_serviceSlot, State.setLine_serviceOwed,
      State.setLine_cache] at h1 h2
    constructor
    · simp only [State.unanswered_eq, hnone]
      simp only [State.writing, State.serviceOut, State.sumLines, State.line, Option.map_some, Option.toList_some,
        Option.toList_none, ofType_cons, ofType_nil, State.setLine_serviceSlot, State.setLine_serviceOwed] at h1 ⊢
      omega
    · simp only [State.unreturned_eq, hnone]
      simp only [State.writing, State.serviceOut, State.sumLines, State.line, Option.map_some, Option.toList_some,
        Option.toList_none, ofType_cons, ofType_nil, State.setLine_serviceSlot, State.setLine_serviceOwed,
        State.setLine_cache] at h2 ⊢
      omega
  · constructor
    · simp only [State.unanswered_eq, hnone, State.serviceOut, hslot]
      simp only [State.writing, State.sumLines, State.line, Option.map_some, Option.toList_some, Option.toList_none,
        ofType_append, ofType_cons, ofType_nil]
      omega
    · simp only [State.unreturned_eq, hnone, State.serviceOut, hslot]
      simp only [State.writing, State.sumLines, State.line, Option.map_some, Option.toList_some, Option.toList_none,
        ofType_append, ofType_cons, ofType_nil]
      omega

theorem State.enterHalted_conserves (s : State) : s.Conserves s.enterHalted := by
  rw [State.enterHalted_eq]
  refine .of_lines (fun l => ?_) rfl rfl rfl
  show (s.line l).Conserves ((s.mapLines Line.clearBarred).line l)
  rw [State.line_mapLines]
  exact .of_eq rfl rfl rfl rfl rfl

theorem State.relabel_conserves (s : State) : s.Conserves (s.mapLines Line.relabel) := by
  refine .of_lines (fun l => ?_) rfl rfl rfl
  obtain ⟨st, h, -⟩ := (s.line l).relabel_eq
  rw [State.line_mapLines, h]
  exact .of_eq rfl rfl rfl rfl rfl

end

/-- What follows within a step neither takes nor answers a record, nor takes or returns a buffer. -/
theorem State.settleFrom_conserves (before s : State) : s.Conserves (State.settleFrom before s) :=
  State.settleFrom_keeps (P := s.Conserves) before (fun _ _ hs h => hs.trans (State.fetchBegin_conserves h))
    (fun _ _ _ hs h => hs.trans (State.engineMove_conserves h)) (fun _ _ hs h => hs.trans (State.servicePlace_conserves h))
    (fun _ _ _ hs h => hs.trans (State.take_conserves h)) (fun _ hs _ => hs.trans (State.enterHalted_conserves _))
    (fun _ hs => hs.trans (State.relabel_conserves _)) s (.refl s)

/-! ## Happenings -/

section
variable {x : LineCtx} {c : Instr} {a b : Line}

/-- Node events answer and return nothing. -/
theorem Line.exchangeApplied_conserves (a : Line) (x : LineCtx) (f : Frame) (res : ExchangeResult) :
    a.Conserves (a.exchangeApplied x f res) := by
  refine Line.Conserves.trans ?_ (Line.produceAll_conserves_events _ _ (fun c hc => ?_))
  · exact .of_eq rfl rfl rfl rfl rfl
  · obtain ⟨e, -, rfl⟩ := List.mem_map.mp hc
    rfl

/-- The end of an exchange conserves what the line holds; a POLL meets no collection (R67). -/
theorem Line.exchangeEnd_conserves {res : ExchangeResult} (hpoll : a.engine.purpose = some .poll → a.engine.collection = none) :
    a.Conserves (a.exchangeEnd x res) := by
  obtain ⟨-, h⟩ | ⟨p, f, hp, -, ⟨-, h⟩ | ⟨-, hend⟩⟩ := Line.exchangeEnd_cases x .running a res
  · rw [h]; exact .of_eq rfl rfl rfl rfl rfl
  · rw [h]; exact .of_eq (by simp) (by simp) (by simp) (by simp) (by simp)
  · have happlied := a.exchangeApplied_conserves x f res
    obtain hquiet | ⟨k, -, hquiet⟩ | ⟨rfl, k, hk, h⟩ := hend
    · exact happlied.trans hquiet.unit.conserves
    · exact happlied.trans (Line.Conserves.trans (.of_eq rfl rfl rfl rfl rfl) hquiet.unit.conserves)
    · rw [h]
      refine happlied.trans ⟨rfl, ?_⟩
      simp [Line.buffersHeld, Line.heldBuffers, Line.outbox, hpoll hp, hk]

/-- A trip returns no buffer and drops only a collection that holds none (R26, R27). -/
theorem Line.trip_conserves (hpoll : a.engine.purpose = some .poll → a.engine.collection = none) :
    a.Conserves (a.trip x) := by
  have htripped : a.Conserves { a with
      driver := { a.driver with state := .tripped, settle := none }, engine := { a.engine with tripPending := true } } :=
    .of_eq rfl rfl rfl rfl rfl
  have hleft := htripped.trans (Line.Change.conserves (.leaveUp (x := x) (d := .running) _))
  unfold Line.trip
  dsimp only
  split
  · split
    · exact hleft
    · exact htripped
  · split
    · exact hleft.trans (Line.exchangeEnd_conserves (fun hp => by simp [Line.leaveUp, hpoll hp]))
    · exact htripped.trans (Line.exchangeEnd_conserves hpoll)

theorem Line.Happening.conserves (h : Line.Happening x c a b)
    (hpoll : a.engine.purpose = some .poll → a.engine.collection = none) : a.Conserves b := by
  cases h with
  | trip hst => exact Line.trip_conserves hpoll
  | failed g hst => exact Line.exchangeEnd_conserves hpoll
  | valid rx f r hc hst hf hjudge => exact Line.exchangeEnd_conserves hpoll
  | accessEnd b hst haccess hunit => exact Line.Conserves.trans (.of_eq rfl rfl rfl rfl rfl) hunit.conserves
  | _ => exact .of_eq rfl rfl rfl rfl rfl

end

end Sys2Proof.Machine
end

section
/-! PROOFS. Conservation, command by command: a slot read takes one record, the end of a completion write answers or returns
one, and nothing else changes the numbers (R129, R144). -/

namespace Sys2Proof.Machine

/-- What a command's effect does to the numbers: it adds the record it takes, and takes away the one whose write it ends. -/
def State.Counted (s : State) (c : Instr) (u : State) : Prop :=
  u.unanswered + s.writes .result c = s.unanswered + s.takes (fun r => r.val < 8) c ∧
    u.unreturned + s.writes .arrival c = s.unreturned + s.takes (fun r => r = supplyRing) c

section
variable {s u : State} {c : Instr}

theorem State.NoRecord.counted (hn : s.NoRecord c) (h : s.Conserves u) : s.Counted c u := by
  obtain ⟨htakes, hwrites⟩ := hn
  obtain ⟨hunanswered, hunreturned⟩ := h
  simp [State.Counted, htakes, hwrites, hunanswered, hunreturned]

/-- Entry to RUNNING holds nothing (R162). -/
theorem State.enterRunning_counts (s : State) (cfg : LoadedConfig) :
    (s.enterRunning cfg).unanswered = 0 ∧ (s.enterRunning cfg).unreturned = 0 := by
  have hlines : ∀ l, (s.enterRunning cfg).line l = Line.start (cfg.lines.get l) (s.line l) := fun l => by
    simp [State.enterRunning, State.line, State.raise, Vector.get_eq_getElem]
  have hzero : ∀ f : Line → Nat, (∀ l, f (Line.start (cfg.lines.get l) (s.line l)) = 0) → (s.enterRunning cfg).sumLines f = 0 :=
    fun f hf => by simp [State.sumLines, hlines, hf]
  constructor
  · rw [State.unanswered_eq, hzero _ (fun l => rfl)]
    rfl
  · rw [State.unreturned_eq, hzero _ (fun l => rfl)]
    rfl

@[simp] theorem returnedRecord_type (code : Code) (id : BitVec 32) : (returnedRecord code id).type = .arrival := rfl

/-- STOP's return of the cache turns each buffer into an ARRIVAL on its way (R138). -/
theorem State.returnCache_conserves (s : State) : s.Conserves s.returnCache := by
  obtain ⟨hnone, hall⟩ : ofType .result (s.cache.map (fun b => returnedRecord .cancelled b.id)) = 0 ∧
      ofType .arrival (s.cache.map (fun b => returnedRecord .cancelled b.id)) = s.cache.length := by
    induction s.cache with
    | nil => simp
    | cons b bs ih => simp [ih, Nat.add_comm]
  constructor
  · simp only [State.unanswered_eq, State.returnCache, State.serviceOut, State.sumLines, State.writing, State.line,
      ofType_append, hnone]
    omega
  · simp only [State.unreturned_eq, State.returnCache, State.serviceOut, State.sumLines, State.writing, State.line,
      ofType_append, hall, List.length_nil]
    omega

/-- A broken ring owes the host its RING_FAULT, which answers nothing (R146). -/
theorem State.breakRing_conserves (s : State) (r : RingId) : s.Conserves (s.breakRing r) := by
  constructor
  · simp [State.unanswered_eq, State.breakRing, State.oweService, State.serviceOut, State.sumLines, State.writing,
      State.line, State.setRing, ringFaultRecord]
  · simp [State.unreturned_eq, State.breakRing, State.oweService, State.serviceOut, State.sumLines, State.writing,
      State.line, State.setRing, ringFaultRecord]

theorem State.release_conserves (s : State) (r : RingId) : s.Conserves (s.release r) := by
  obtain ⟨l, side, -, h⟩ | ⟨-, h⟩ := s.release_cases r <;> rw [h]
  · exact .setLine (.of_eq (by simp [Engine.setReserved_eq]) (by simp [Engine.setReserved_eq])
      (by simp [Engine.setReserved_eq]) (by simp [Engine.setReserved_eq]) (by simp [Engine.setReserved_eq]))
  · exact .of_eq rfl rfl rfl rfl

/-- A record taken adds one to the requests unanswered or to the buffers unreturned, by its ring (R144). -/
theorem State.recordTaken_counts (s : State) (r : RingId) (data : List Byte) :
    (s.recordTaken r data).unanswered = s.unanswered + (if r.val < 8 then 1 else 0) ∧
      (s.recordTaken r data).unreturned = s.unreturned + (if r = supplyRing then 1 else 0) := by
  have hmoved : s.Conserves (s.indexMoved r) := .of_eq rfl rfl rfl rfl
  cases hr : ringTarget r with
  | some target =>
    obtain ⟨l, side⟩ := target
    have hrequest : r.val < 8 := by
      by_contra hge
      have : r = supplyRing := Fin.ext (by have := r.isLt; simp [supplyRing]; omega)
      rw [(ringTarget_eq_none_iff r).mpr this] at hr
      cases hr
    have hsupply : r ≠ supplyRing := fun he => by subst he; simp [supplyRing] at hrequest
    rw [State.recordTaken_of_request hr, if_pos hrequest, if_neg hsupply]
    have h1 := (s.indexMoved r).unanswered_setLine l { s.line l with
      engine := (s.line l).engine.queued side (Request.ofBytes (exactly 48 data)) }
    have h2 := (s.indexMoved r).unreturned_setLine l { s.line l with
      engine := (s.line l).engine.queued side (Request.ofBytes (exactly 48 data)) }
    have hline : (s.indexMoved r).line l = s.line l := rfl
    rw [hline] at h1 h2
    have hqueued : ({ s.line l with engine := (s.line l).engine.queued side (Request.ofBytes (exactly 48 data)) } :
        Line).requestsHeld = (s.line l).requestsHeld + 1 := by
      cases side <;> simp [Line.requestsHeld, Line.outbox, Engine.queued] <;> omega
    have hbuffers : ({ s.line l with engine := (s.line l).engine.queued side (Request.ofBytes (exactly 48 data)) } :
        Line).buffersHeld = (s.line l).buffersHeld := by
      cases side <;> rfl
    obtain ⟨h3, h4⟩ := hmoved
    constructor <;> omega
  | none =>
    obtain rfl := (ringTarget_eq_none_iff r).mp hr
    rw [State.recordTaken_of_supply hr]
    obtain ⟨h1, h2⟩ := hmoved
    generalize s.indexMoved supplyRing = v at h1 h2
    have hjoin : (v.supplyTaken (SupplyRecord.ofBytes (exactly 16 data))).unanswered = v.unanswered ∧
        (v.supplyTaken (SupplyRecord.ofBytes (exactly 16 data))).unreturned = v.unreturned + 1 := by
      obtain ⟨-, -, h⟩ | ⟨-, -, h⟩ | ⟨-, h⟩ := v.supplyTaken_cases (SupplyRecord.ofBytes (exactly 16 data)) <;>
        rw [h] <;> constructor <;>
        simp only [State.unanswered_eq, State.unreturned_eq, State.sumLines, State.line, State.serviceOut, State.writing,
          ofType_append, ofType_cons, ofType_nil, returnedRecord_type, List.length_append, List.length_cons,
          List.length_nil, reduceCtorEq, if_false, if_true] <;>
        omega
    exact ⟨hjoin.1.trans h1, by rw [hjoin.2, h2]; rfl⟩

/-- The record whose write has ended is on its way no more (R151). -/
theorem State.countWritten_counts (s : State) :
    s.countWritten.announceDue.unanswered + ofType .result s.writing.toList = s.unanswered ∧
      s.countWritten.announceDue.unreturned + ofType .arrival s.writing.toList = s.unreturned := by
  have hannounce : s.countWritten.Conserves s.countWritten.announceDue := by
    unfold State.announceDue
    split
    · exact .of_eq rfl rfl rfl rfl
    · exact .refl _
  obtain ⟨h1, h2⟩ := hannounce
  rw [h1, h2]
  exact ⟨rfl, rfl⟩

theorem State.Effect.counted (h : s.Effect c u) (hsound : s.Sound) (hwf : c.wellFormed = true) (hpower : c ≠ .powerOn)
    (hreset : c ≠ .reset) (hfault : c ≠ .completionWriteDone .busError) : s.Counted c u := by
  cases h with
  | window u hn hu => exact hn.counted (.of_eq (by rw [hu]) (by rw [hu]; rfl) (by rw [hu]; rfl) (by rw [hu]))
  | powerOn hc => exact absurd hc hpower
  | reset hn hacts =>
    obtain hc | ⟨hc, -⟩ := hacts
    · exact absurd hc hreset
    · rw [hc] at hwf; cases hwf
  | loadBegins hn hd =>
    rw [State.startCommand_of_halted hd]
    exact hn.counted (.of_eq rfl rfl rfl rfl)
  | started cfg hn hd hread hgood =>
    obtain ⟨h1, h2⟩ := hsound.accounted (.inr hd)
    obtain ⟨h3, h4⟩ := s.enterRunning_counts cfg
    exact hn.counted ⟨h3.trans h1.symm, h4.trans h2.symm⟩
  | stops hn hd =>
    exact hn.counted (State.Conserves.trans (t := { s with device := .stopping }) (.of_eq rfl rfl rfl rfl)
      (State.returnCache_conserves _))
  | fetched r tail u hn hd hu =>
    exact hn.counted (State.Conserves.trans (t := s.setRing r { s.ring r with tail := tail }) (.of_eq rfl rfl rfl rfl)
      (State.fetchBegin_conserves hu))
  | line l ln hn hbusy hln =>
    obtain ⟨-, -, hturn, -⟩ := hsound.collections l
    exact hn.counted (.setLine (hln.conserves (fun hp => (hturn _ hp rfl).2)))
  | taken r data hc hf =>
    obtain ⟨h1, h2⟩ := s.recordTaken_counts r data
    simpa [State.Counted, State.takes, State.writes, hc, hf] using ⟨h1, h2⟩
  | readFailed r hn hf => exact hn.counted ((s.release_conserves r).trans (State.breakRing_conserves _ r))
  | progressFailed r hn hf => exact hn.counted (s.breakRing_conserves r)
  | written hc hserving hwrite =>
    obtain ⟨h1, h2⟩ := s.countWritten_counts
    simpa [State.Counted, State.takes, State.writes, hc, hserving] using ⟨h1, h2⟩
  | faulted hc hserving hwrite => exact absurd hc hfault
  | _ => exact State.NoRecord.counted ‹_› (.of_eq rfl rfl rfl rfl)

theorem State.counted_of_exec {t : State} (hsound : s.Sound) (hwf : c.wellFormed = true) (hpower : c ≠ .powerOn)
    (hreset : c ≠ .reset) (hfault : c ≠ .completionWriteDone .busError) (hexec : exec c s = .next t) : s.Counted c t := by
  obtain ⟨u, heffect, hfollows⟩ := State.After.of_exec hexec
  have hu := heffect.counted hsound hwf hpower hreset hfault
  obtain rfl | rfl := hfollows
  · exact hu
  · obtain ⟨h1, h2⟩ := State.settleFrom_conserves s u
    unfold State.Counted
    rw [h1, h2]
    exact hu

end

/-- Settles O14. -/
theorem requestsAreAnsweredOnce : Obligations.RequestsAreAnsweredOnce := by
  intro c s t hsound hwf hpower hreset hfault hexec
  exact (State.counted_of_exec hsound hwf hpower hreset hfault hexec).1

/-- Settles O15. -/
theorem buffersAreReturnedOnce : Obligations.BuffersAreReturnedOnce := by
  intro c s t hsound hwf hpower hreset hfault hexec
  exact (State.counted_of_exec hsound hwf hpower hreset hfault hexec).2

end Sys2Proof.Machine
end

section
/-! PROOFS. Queues and cache keep within their depths, reserved places counted (R86, R126, R127, R143). -/

namespace Sys2Proof.Machine

/-! ## Queues of a line -/

theorem ringTarget_eq_some_iff (r : RingId) (l : LineId) (side : QueueSide) :
    ringTarget r = some (l, side) ↔ r = queueRing l side := by
  cases side <;> revert r l <;> decide

/-- No queue takes more places than before, and the reserved places are the same. -/
def Line.Fits (a b : Line) : Prop :=
  (∀ side, b.engine.places side ≤ a.engine.places side) ∧ ∀ side, b.engine.reserved side = a.engine.reserved side

theorem Line.Fits.of_eq {a b : Line} (hu : b.engine.urgent = a.engine.urgent) (hr : b.engine.routine = a.engine.routine)
    (hur : b.engine.urgentReserved = a.engine.urgentReserved)
    (hrr : b.engine.routineReserved = a.engine.routineReserved) : a.Fits b := by
  constructor <;> intro side <;> cases side <;> simp [Engine.places, Engine.reserved, hu, hr, hur, hrr]

theorem Line.Fits.refl (a : Line) : a.Fits a := .of_eq rfl rfl rfl rfl

theorem Line.Fits.trans {a b c : Line} (h : a.Fits b) (h' : b.Fits c) : a.Fits c :=
  ⟨fun side => (h'.1 side).trans (h.1 side), fun side => (h'.2 side).trans (h.2 side)⟩

theorem Line.Granted.fits {a b : Line} {cache cache' : List SupplyRecord} (h : Line.Granted a b cache cache') :
    a.Fits b := by
  obtain ⟨-, -, -, hu, hr, hur, hrr, -⟩ := h.leaves
  exact .of_eq hu hr hur hrr

section
variable {x : LineCtx} {c : Instr} {a b : Line}

theorem Line.exchangeEnd_fits (a : Line) (x : LineCtx) (res : ExchangeResult) : a.Fits (a.exchangeEnd x res) := by
  obtain ⟨-, h⟩ | ⟨p, f, -, -, ⟨-, h⟩ | ⟨-, hend⟩⟩ := Line.exchangeEnd_cases x .running a res
  · rw [h]; exact .of_eq rfl rfl rfl rfl
  · rw [h]; exact .of_eq (by simp) (by simp) (by simp) (by simp)
  · have happlied : a.Fits (a.exchangeApplied x f res) := .of_eq (by simp) (by simp) (by simp) (by simp)
    obtain hquiet | ⟨k, -, hquiet⟩ | ⟨-, k, -, h⟩ := hend
    · exact happlied.trans hquiet.unit.places
    · exact happlied.trans (Line.Fits.trans (.of_eq rfl rfl rfl rfl) hquiet.unit.places)
    · rw [h]; exact happlied.trans (.of_eq rfl rfl rfl rfl)

theorem Line.trip_fits (a : Line) (x : LineCtx) : a.Fits (a.trip x) := by
  unfold Line.trip
  dsimp only
  split
  · split <;> exact .of_eq rfl rfl rfl rfl
  · refine Line.Fits.trans ?_ (Line.exchangeEnd_fits _ x _)
    split <;> exact .of_eq rfl rfl rfl rfl

theorem Line.Happening.fits (h : Line.Happening x c a b) : a.Fits b := by
  cases h with
  | trip hst => exact a.trip_fits x
  | failed g hst => exact a.exchangeEnd_fits x _
  | valid rx f r hc hst hf hjudge => exact a.exchangeEnd_fits x _
  | accessEnd b hst haccess hunit => exact Line.Fits.trans (.of_eq rfl rfl rfl rfl) hunit.places
  | _ => exact .of_eq rfl rfl rfl rfl

end

/-- Places are the records and the reserved places (R86). -/
def Engine.queueLength (g : Engine) : QueueSide → Nat
  | .urgent => g.urgent.length
  | .routine => g.routine.length

theorem Engine.places_eq (g : Engine) (side : QueueSide) : g.places side = g.queueLength side + g.reserved side := by
  cases side <;> rfl

theorem Engine.queueLength_setReserved (g : Engine) (side side' : QueueSide) (n : Nat) :
    (g.setReserved side n).queueLength side' = g.queueLength side' := by
  cases side <;> rfl

theorem State.reserve_queueLength (s : State) (r : RingId) (l : LineId) (side : QueueSide) :
    ((s.reserve r).line l).engine.queueLength side = (s.line l).engine.queueLength side := by
  obtain ⟨m, side', -, h⟩ | ⟨-, h⟩ := s.reserve_cases r <;> rw [h]
  · rw [State.line_setLine]
    split
    · next he => subst he; exact Engine.queueLength_setReserved _ _ _ _
    · rfl
  · rfl

theorem State.release_queueLength (s : State) (r : RingId) (l : LineId) (side : QueueSide) :
    ((s.release r).line l).engine.queueLength side = (s.line l).engine.queueLength side := by
  obtain ⟨m, side', -, h⟩ | ⟨-, h⟩ := s.release_cases r <;> rw [h]
  · rw [State.line_setLine]
    split
    · next he => subst he; exact Engine.queueLength_setReserved _ _ _ _
    · rfl
  · rfl

/-- Room in the destination of a request ring, and of the supply ring (R143). -/
theorem State.hasRoom_of_request {s : State} {r : RingId} {l : LineId} {side : QueueSide}
    (hr : ringTarget r = some (l, side)) (h : s.hasRoom r = true) : (s.line l).engine.places side < Config.queueDepth := by
  rw [State.hasRoom, hr] at h
  exact of_decide_eq_true h

theorem State.hasRoom_of_supply {s : State} {r : RingId} (hr : r = supplyRing) (h : s.hasRoom r = true) :
    s.cache.length + s.cacheReserved < Config.cacheDepth := by
  rw [State.hasRoom, (ringTarget_eq_none_iff r).mpr hr] at h
  exact of_decide_eq_true h

/-! ## What keeps the bounds -/

section
variable {s t u : State} {c : Instr}

/-- No queue and no cache grows, no place is given up, and no read begins. -/
theorem State.queuesBounded.of_fits (h : s.queuesBounded) (hlines : ∀ l, (s.line l).Fits (t.line l))
    (hreading : ∀ r, t.reading r = true → s.reading r = true) (hcache : t.cache.length ≤ s.cache.length)
    (hreserved : t.cacheReserved = s.cacheReserved) (hbad : t.badOwed = s.badOwed) : t.queuesBounded := by
  obtain ⟨hqueues, hdepth, howed⟩ := h
  refine ⟨fun l side => ?_, by omega, ?_⟩
  · obtain ⟨hplaces, hread⟩ := hqueues l side
    obtain ⟨hfits, hsame⟩ := hlines l
    exact ⟨(hfits side).trans hplaces, fun hr => (hsame side).symm ▸ hread (hreading _ hr)⟩
  · rw [hreserved, hbad]
    have hle := Bool.toNat_le_toNat (hreading supplyRing)
    omega

/-- Changes that leave lines, fetch, cache and owed records. -/
theorem State.queuesBounded.of_eq (h : s.queuesBounded) (hlines : t.lines = s.lines) (hfetch : t.fetcher.fetch = s.fetcher.fetch)
    (hcache : t.cache = s.cache) (hreserved : t.cacheReserved = s.cacheReserved) (howed : t.serviceOwed = s.serviceOwed) :
    t.queuesBounded :=
  h.of_fits (fun l => by rw [State.line_congr hlines l]; exact .refl _) (fun r => by simp [State.reading, hfetch])
    (by rw [hcache]) hreserved (by simp [State.badOwed, howed])

/-- Nothing is queued, reserved, cached or fetched. -/
theorem State.queuesBounded.of_empty (hlines : ∀ l side, (t.line l).engine.places side = 0) (hfetch : t.fetcher.fetch = none)
    (hcache : t.cache = []) (hreserved : t.cacheReserved = 0) (howed : t.serviceOwed = []) : t.queuesBounded := by
  refine ⟨fun l side => ⟨by rw [hlines]; exact Nat.zero_le _, fun hr => ?_⟩, ?_, ?_⟩
  · simp [State.reading, hfetch] at hr
  · simp [hcache, hreserved]
  · simp [State.badOwed, howed, State.reading, hfetch]

/-- A fetch begins only where its destination has room, and its place is reserved with it (R143). -/
theorem State.fetchBegin_queuesBounded (h : s.queuesBounded) (ht : s.fetchBegin = some t) : t.queuesBounded := by
  obtain ⟨hqueues, hdepth, howed⟩ := h
  obtain ⟨-, -, -, hcache, -, -, hservice, -⟩ := State.fetchBegin_leaves ht
  obtain ⟨hfree, r, heligible, rfl⟩ := State.fetchBegin_cases ht
  have hroom : s.hasRoom r = true := by
    simp only [State.eligible, Bool.and_eq_true] at heligible
    exact heligible.2
  set v : State := { s with fetcher := { pointer := r, fetch := some { ring := r, phase := .read } } }
  have hfetch : (v.reserve r).fetcher.fetch = some { ring := r, phase := .read } := by rw [(State.reserve_leaves v r).1]
  have hreads : ∀ q, (v.reserve r).reading q = true ↔ q = r := fun q => by
    rw [State.reading, hfetch]
    simpa using eq_comm
  have hbad : (v.reserve r).badOwed = s.badOwed := by simp [State.badOwed, hservice]
  have hnot : s.reading supplyRing = false := by simp [State.reading, hfree]
  refine ⟨fun l side => ?_, ?_, ?_⟩
  · obtain ⟨hplaces, -⟩ := hqueues l side
    have hreserved := v.reserve_reserved r l side
    rw [Engine.places_eq, v.reserve_queueLength, hreserved]
    rw [Engine.places_eq] at hplaces
    show (s.line l).engine.queueLength side + ((s.line l).engine.reserved side + _) ≤ _ ∧
      (_ → 1 ≤ (s.line l).engine.reserved side + _)
    by_cases htarget : ringTarget r = some (l, side)
    · have hless := State.hasRoom_of_request htarget hroom
      rw [Engine.places_eq] at hless
      rw [if_pos htarget]
      exact ⟨by omega, fun _ => by omega⟩
    · rw [if_neg htarget]
      exact ⟨by omega, fun hr => absurd ((ringTarget_eq_some_iff r l side).mpr ((hreads _).mp hr).symm) htarget⟩
  · rw [hcache, v.reserve_cacheReserved r]
    split
    · next hr =>
      have hless := State.hasRoom_of_supply hr hroom
      show s.cache.length + (s.cacheReserved + 1) ≤ _
      omega
    · exact hdepth
  · rw [hbad, v.reserve_cacheReserved r]
    rw [hnot] at howed
    by_cases hr : r = supplyRing
    · rw [if_pos hr]
      have : ((v.reserve r).reading supplyRing).toNat ≤ 1 := Bool.toNat_le _
      show _ ≤ s.cacheReserved + 1
      simp at howed
      omega
    · have hfalse : (v.reserve r).reading supplyRing = false := by
        rw [Bool.eq_false_iff]
        exact fun hh => hr ((hreads _).mp hh).symm
      rw [if_neg hr, hfalse]
      exact howed

theorem State.engineMove_queuesBounded {l : LineId} (h : s.queuesBounded) (ht : s.engineMove l = some t) :
    t.queuesBounded := by
  obtain ⟨ln, cache, hstep, rfl⟩ := State.engineMove_cases ht
  obtain ⟨-, ⟨rfl, d, hunit⟩ | hgrant⟩ := Line.engineStep_unit hstep
  · exact h.of_fits (State.lines_setLine Line.Fits.refl hunit.places) (fun _ hr => hr) (Nat.le_refl _) rfl rfl
  · have hcache : cache.length ≤ s.cache.length := by
      obtain ⟨k, b, -, -, hcache, -⟩ := hgrant
      simp [hcache]
    exact h.of_fits (State.lines_setLine (s := s) Line.Fits.refl hgrant.fits) (fun _ hr => hr) hcache rfl rfl

/-- A BAD_BUFFER ARRIVAL gives up its place as it leaves the owed list (R127, R148). -/
theorem State.servicePlace_queuesBounded (h : s.queuesBounded) (ht : s.servicePlace = some t) : t.queuesBounded := by
  obtain ⟨c, rest, -, howed, rfl⟩ := State.servicePlace_cases ht
  obtain ⟨hqueues, hdepth, hbad⟩ := h
  rw [State.badOwed, howed, List.countP_cons] at hbad
  refine ⟨hqueues, ?_, ?_⟩
  · dsimp only
    split <;> omega
  · show rest.countP _ + (s.reading supplyRing).toNat ≤ _
    by_cases hc : c.code = .badBuffer
    · simp only [hc, beq_self_eq_true, if_true] at hbad ⊢
      omega
    · simp only [hc, beq_iff_eq, if_false] at hbad ⊢
      omega

theorem State.take_queuesBounded {fresh : Bool} (h : s.queuesBounded) (ht : s.take fresh = some t) : t.queuesBounded := by
  obtain ⟨-, k, c, n, u, rfl, ⟨l, -, rfl⟩ | ⟨-, rfl⟩⟩ := State.take_source ht
  · exact h.of_fits (State.lines_setLine (s := s) Line.Fits.refl (.of_eq rfl rfl rfl rfl)) (fun _ hr => hr) (Nat.le_refl _) rfl rfl
  · exact h.of_eq rfl rfl rfl rfl rfl

/-- A change of every line that leaves the queues. -/
theorem State.mapLines_queuesBounded {f : Line → Line} (h : s.queuesBounded) (hf : ∀ l, (s.line l).Fits (f (s.line l))) :
    (s.mapLines f).queuesBounded :=
  h.of_fits (fun l => by rw [State.line_mapLines]; exact hf l) (fun _ hr => hr) (Nat.le_refl _) rfl rfl

theorem State.enterHalted_queuesBounded (h : s.queuesBounded) : s.enterHalted.queuesBounded := by
  rw [State.enterHalted_eq]
  exact State.queuesBounded.of_eq (s := s.mapLines Line.clearBarred)
    (State.mapLines_queuesBounded h (fun l => .of_eq rfl rfl rfl rfl)) rfl rfl rfl rfl rfl

theorem State.relabel_queuesBounded (h : s.queuesBounded) : (s.mapLines Line.relabel).queuesBounded :=
  State.mapLines_queuesBounded h (fun l => by
    obtain ⟨st, hline, -⟩ := (s.line l).relabel_eq
    rw [hline]
    exact .of_eq rfl rfl rfl rfl)

theorem State.settleFrom_queuesBounded (before : State) (h : s.queuesBounded) :
    (State.settleFrom before s).queuesBounded :=
  State.settleFrom_keeps before (fun _ _ hs ht => State.fetchBegin_queuesBounded hs ht)
    (fun _ _ _ hs ht => State.engineMove_queuesBounded hs ht) (fun _ _ hs ht => State.servicePlace_queuesBounded hs ht)
    (fun _ _ _ hs ht => State.take_queuesBounded hs ht) (fun _ hs _ => State.enterHalted_queuesBounded hs)
    (fun _ hs => State.relabel_queuesBounded hs) s h

/-! ## Effects -/

/-- A record joins its destination in the place reserved for it (R86, R127). -/
theorem State.recordTaken_queuesBounded {r : RingId} (h : s.queuesBounded)
    (hf : s.fetcher.fetch = some { ring := r, phase := .read }) (data : List Byte) :
    (s.recordTaken r data).queuesBounded := by
  have hread : s.reading r = true := by simp [State.reading, hf]
  have hnot : ∀ q, (s.indexMoved r).reading q = false := fun q => by simp [State.reading, State.indexMoved]
  cases hr : ringTarget r with
  | some target =>
    obtain ⟨l, side⟩ := target
    obtain rfl := (ringTarget_eq_some_iff r l side).mp hr
    rw [State.recordTaken_of_request hr]
    obtain ⟨hqueues, hdepth, hbad⟩ := h
    refine ⟨fun m side' => ⟨?_, fun hq => absurd ((hnot (queueRing m side')).symm.trans hq) Bool.false_ne_true⟩, hdepth, ?_⟩
    · rw [State.line_setLine]
      split
      · next hm =>
        subst hm
        obtain ⟨hplaces, -⟩ := hqueues m side'
        have hreserved := (hqueues m side).2 hread
        refine Nat.le_trans ?_ hplaces
        cases side <;> cases side' <;> simp [Engine.places, Engine.reserved, Engine.queued] at hreserved ⊢
        all_goals omega
      · exact (hqueues m side').1
    · show s.badOwed + ((s.indexMoved _).reading supplyRing).toNat ≤ s.cacheReserved
      rw [hnot]
      exact Nat.le_trans (Nat.add_le_add_left (Nat.zero_le _) _) hbad
  | none =>
    obtain rfl := (ringTarget_eq_none_iff r).mp hr
    obtain ⟨hqueues, hdepth, hbad⟩ := h
    have hqueues' : ∀ l side, (s.line l).engine.places side ≤ Config.queueDepth ∧
        ((s.indexMoved supplyRing).reading (queueRing l side) = true → 1 ≤ (s.line l).engine.reserved side) :=
      fun l side => ⟨(hqueues l side).1, fun hq => absurd (hnot _) (by simpa using hq)⟩
    have hnone := hnot supplyRing
    rw [hread, Bool.toNat_true] at hbad
    rw [State.recordTaken_of_supply hr]
    obtain ⟨-, -, h⟩ | ⟨-, -, h⟩ | ⟨-, h⟩ :=
      (s.indexMoved supplyRing).supplyTaken_cases (SupplyRecord.ofBytes (exactly 16 data)) <;> rw [h]
    · refine ⟨hqueues', ?_, ?_⟩
      · show (s.cache ++ [_]).length + (s.cacheReserved - 1) ≤ _
        simp only [List.length_append, List.length_cons, List.length_nil]
        omega
      · show s.badOwed + ((s.indexMoved supplyRing).reading supplyRing).toNat ≤ s.cacheReserved - 1
        rw [hnone, Bool.toNat_false]
        omega
    · refine ⟨hqueues', ?_, ?_⟩
      · show s.cache.length + (s.cacheReserved - 1) ≤ _
        omega
      · show (s.serviceOwed ++ [_]).countP _ + ((s.indexMoved supplyRing).reading supplyRing).toNat ≤ s.cacheReserved - 1
        rw [hnone, List.countP_append]
        simp only [State.badOwed] at hbad
        simp [returnedRecord, arrivalRecord]
        omega
    · refine ⟨hqueues', hdepth, ?_⟩
      show (s.serviceOwed ++ [_]).countP _ + ((s.indexMoved supplyRing).reading supplyRing).toNat ≤ s.cacheReserved
      rw [hnone, List.countP_append]
      simp only [State.badOwed] at hbad
      simp [returnedRecord, arrivalRecord]
      omega

/-- A fetch that ends in a bus error reads no more; RING_FAULT holds no place (R146). -/
theorem State.breakRing_queuesBounded (h : s.queuesBounded) (r : RingId) : (s.breakRing r).queuesBounded :=
  h.of_fits (fun l => .refl _) (fun q hq => by simp [State.reading, State.breakRing, State.oweService] at hq)
    (Nat.le_refl _) rfl (by simp [State.badOwed, State.breakRing, State.oweService, ringFaultRecord])

/-- A failed slot read gives back its place (R146). -/
theorem State.readFailed_queuesBounded {r : RingId} (h : s.queuesBounded)
    (hf : s.fetcher.fetch = some { ring := r, phase := .read }) : ((s.release r).breakRing r).queuesBounded := by
  have hread : ∀ q, s.reading q = true ↔ q = r := fun q => by rw [State.reading, hf]; simpa using eq_comm
  have hnot : ∀ q, ((s.release r).breakRing r).reading q = false := fun q => by
    simp [State.reading, State.breakRing, State.oweService]
  obtain ⟨hqueues, hdepth, hbad⟩ := h
  have hcache : ((s.release r).breakRing r).cache = s.cache := by
    obtain ⟨l, side, -, h⟩ | ⟨-, h⟩ := s.release_cases r <;> rw [h] <;> rfl
  have howed : ((s.release r).breakRing r).badOwed = s.badOwed := by
    obtain ⟨l, side, -, h⟩ | ⟨-, h⟩ := s.release_cases r <;> rw [h] <;>
      simp [State.badOwed, State.breakRing, State.oweService, ringFaultRecord]
  have hreserved : ((s.release r).breakRing r).cacheReserved = s.cacheReserved - (if r = supplyRing then 1 else 0) :=
    s.release_cacheReserved r
  refine ⟨fun l side => ⟨?_, fun hq => absurd (hnot _) (by simpa using hq)⟩, ?_, ?_⟩
  · obtain ⟨hplaces, -⟩ := hqueues l side
    show ((s.release r).line l).engine.places side ≤ _
    rw [Engine.places_eq, s.release_queueLength, s.release_reserved]
    rw [Engine.places_eq] at hplaces
    omega
  · rw [hcache, hreserved]
    omega
  · rw [hnot, howed, hreserved]
    by_cases hr : r = supplyRing
    · rw [(hread supplyRing).mpr hr.symm] at hbad
      rw [if_pos hr]
      simp at hbad ⊢
      omega
    · rw [if_neg hr]
      simp
      omega

theorem State.Effect.queuesBounded (heffect : s.Effect c u) (h : s.queuesBounded) : u.queuesBounded := by
  cases heffect with
  | window u hn hu => exact h.of_eq (by rw [hu]) (by rw [hu]) (by rw [hu]) (by rw [hu]) (by rw [hu])
  | powerOn hc =>
    refine .of_empty (fun l side => ?_) rfl rfl rfl rfl
    have hline : s.powerOnPart.line l = Line.initial := by
      simp [State.powerOnPart, State.line, State.reset, Vector.get_eq_getElem]
    rw [hline]
    cases side <;> rfl
  | reset hn hacts =>
    refine .of_empty (fun l side => ?_) rfl rfl rfl rfl
    have hline : s.resetPart.line l = (s.line l).resetLine := s.line_mapLines Line.resetLine l
    rw [hline]
    cases side <;> rfl
  | loadBegins hn hd =>
    rw [State.startCommand_of_halted hd]
    exact h.of_eq rfl rfl rfl rfl rfl
  | started cfg hn hd hread hgood =>
    refine .of_empty (fun l side => ?_) rfl rfl rfl rfl
    have hline : (s.enterRunning cfg).line l = (s.line l).start (cfg.lines.get l) := by
      simp [State.enterRunning, State.line, State.raise, Vector.get_eq_getElem]
    rw [hline]
    cases side <;> rfl
  | stops hn hd =>
    refine h.of_fits (fun l => .refl _) (fun _ hr => hr) (Nat.zero_le _) rfl ?_
    simp [State.badOwed, State.returnCache, List.countP_map, Function.comp_def, returnedRecord, arrivalRecord]
  | fetched r tail u hn hd hu =>
    exact State.fetchBegin_queuesBounded (s := s.setRing r { s.ring r with tail := tail }) (h.of_eq rfl rfl rfl rfl rfl) hu
  | line l ln hn hbusy hln =>
    exact h.of_fits (State.lines_setLine Line.Fits.refl hln.fits) (fun _ hr => hr) (Nat.le_refl _) rfl rfl
  | taken r data hc hf => exact State.recordTaken_queuesBounded h hf data
  | readFailed r hn hf => exact State.readFailed_queuesBounded h hf
  | progressed r hn hf =>
    exact h.of_fits (fun l => .refl _) (fun q hq => by simp [State.reading] at hq) (Nat.le_refl _) rfl rfl
  | progressFailed r hn hf => exact State.breakRing_queuesBounded h r
  | written hc hserving hwrite =>
    have hcounted : s.countWritten.queuesBounded := h.of_eq rfl rfl rfl rfl rfl
    unfold State.announceDue
    split
    · exact hcounted.of_eq rfl rfl rfl rfl rfl
    · exact hcounted
  | faulted hc hserving hwrite =>
    refine h.of_fits (fun l => ?_) (fun q hq => by simp [State.reading, State.enterFaulted, State.raise] at hq)
      (Nat.le_refl _) rfl rfl
    have hline : s.enterFaulted.line l = (s.line l).freeze := s.line_mapLines Line.freeze l
    rw [hline]
    exact .of_eq rfl rfl rfl rfl
  | _ => exact h.of_eq rfl rfl rfl rfl rfl

end

/-- Settles O7: every effect and every move keeps the bounds. -/
theorem stepKeepsQueuesBounded : Obligations.StepKeepsQueuesBounded := by
  intro s t hsound hstep
  refine step_establishes (P := State.queuesBounded) (fun s hs => ?_) (fun s u c hs hu => hu.queuesBounded hs.queues)
    (fun before u hu => State.settleFrom_queuesBounded before hu) hsound hstep
  cases hserving : s.serving with
  | true =>
    rw [State.tick_of_serving hserving]
    exact State.queuesBounded.of_eq (s := s.mapLines Line.tick)
      (State.mapLines_queuesBounded hs.queues (fun l => .of_eq rfl rfl rfl rfl)) rfl rfl rfl rfl rfl
  | false => rw [State.tick_of_not_serving hserving]; exact hs.queues

end Sys2Proof.Machine
end

section
/-! PROOFS. The completion ring: at most its size outstanding, a write has its slot, the phase follows from the producer
count (R149, R150, R153, R154). -/

namespace Sys2Proof.Machine

/-! ## Counting modulo 65536 -/

/-- The phase inverts exactly where the producer index comes round to 0, at the count's wrap too (R149). -/
theorem phaseOf_next {p : BitVec 16} {size k : Nat} (hsize : 0 < size) (hk : size * (2 * k) = 65536) :
    phaseOf (p + 1).toNat size = (if (p + 1).toNat % size = 0 then !phaseOf p.toNat size else phaseOf p.toNat size) := by
  have hp := p.isLt
  obtain hwrap | hstay : p.toNat = 65535 ∨ p.toNat < 65535 := by omega
  · have hnext : (p + 1).toNat = 0 := by rw [BitVec.toNat_add, hwrap]; rfl
    have hpos : 0 < k := by
      by_contra h0
      simp [Nat.eq_zero_of_not_pos h0] at hk
    have hk' : 2 * k * size = 65536 := by rw [Nat.mul_comm]; exact hk
    have hdiv : 65535 / size = 2 * k - 1 := by
      refine Nat.div_eq_of_lt_le ?_ ?_
      · rw [Nat.sub_mul, hk']; omega
      · rw [Nat.sub_add_cancel (by omega), hk']; omega
    rw [hnext, if_pos (Nat.zero_mod _)]
    unfold phaseOf
    rw [hwrap, hdiv, Nat.zero_div]
    have : (2 * k - 1) % 2 = 1 := by omega
    simp [this]
  · have hnext : (p + 1).toNat = p.toNat + 1 := by
      rw [BitVec.toNat_add]
      exact Nat.mod_eq_of_lt (by simp; omega)
    rw [hnext]
    unfold phaseOf
    rw [Nat.succ_div]
    by_cases hdvd : size ∣ p.toNat + 1
    · rw [if_pos hdvd, if_pos (Nat.mod_eq_zero_of_dvd hdvd)]
      obtain h | h := Nat.mod_two_eq_zero_or_one (p.toNat / size)
      · have : (p.toNat / size + 1) % 2 = 1 := by omega
        simp [h, this]
      · have : (p.toNat / size + 1) % 2 = 0 := by omega
        simp [h, this]
    · rw [if_neg hdvd, if_neg (fun h => hdvd (Nat.dvd_of_mod_eq_zero h))]
      rfl

/-- One more record written is one more outstanding, below the count's range (R149). -/
theorem toNat_next_sub {p q : BitVec 16} (h : (p - q).toNat < 65535) : (p + 1 - q).toNat = (p - q).toNat + 1 := by
  have hcomm : p + 1 - q = (p - q) + 1 := by ring
  rw [hcomm, BitVec.toNat_add]
  exact Nat.mod_eq_of_lt (Nat.lt_of_le_of_lt (Nat.succ_le_of_lt h) (by decide))

/-- Records consumed are outstanding no more (R149). -/
theorem toNat_sub_consumed {p q : BitVec 16} {n : Nat} (h : n ≤ (p - q).toNat) :
    (p - (q + BitVec.ofNat 16 n)).toNat = (p - q).toNat - n := by
  have hlt := (p - q).isLt
  have hassoc : p - (q + BitVec.ofNat 16 n) = (p - q) - BitVec.ofNat 16 n := by ring
  rw [hassoc, BitVec.toNat_sub_of_le (by rw [BitVec.le_def, BitVec.toNat_ofNat]; omega), BitVec.toNat_ofNat]
  omega

/-! ## The loaded configuration's ring -/

section
variable {s t u : State} {c : Instr}

theorem State.complSize_congr (h : t.loaded = s.loaded) : t.complSize = s.complSize ∧ t.coalescing = s.coalescing := by
  simp [State.complSize, State.descriptorSize, State.coalescing, h]

/-- The size of the completion ring of an accepted block: a power of two from 16 to 1024 (R140, R160). -/
theorem State.Sound.complSize {s : State} (h : s.Sound) (hloaded : s.loaded.isSome) :
    0 < s.complSize ∧ s.complSize ≤ 1024 ∧ (∃ k, s.complSize * (2 * k) = 65536) ∧ 1 ≤ s.coalescing := by
  obtain ⟨cfg, hcfg⟩ := Option.isSome_iff_exists.mp hloaded
  have hgood := h.ring.1 cfg hcfg
  obtain ⟨hlow, hhigh⟩ := LoadedConfig.ring_exponent hgood 9
  have hsize : s.complSize = 2 ^ (cfg.rings.get 9).exponent := by
    simp [State.complSize, State.descriptorSize, hcfg, RingConfig.size]
  rw [hsize]
  refine ⟨Nat.two_pow_pos _, (Nat.pow_le_pow_right (by decide) hhigh : _ ≤ 2 ^ 10),
    ⟨2 ^ (15 - (cfg.rings.get 9).exponent), ?_⟩, ?_⟩
  · rw [← Nat.pow_succ', ← Nat.pow_add]
    have : (cfg.rings.get 9).exponent + (15 - (cfg.rings.get 9).exponent).succ = 16 := by omega
    rw [this]
  · simp only [State.coalescing, hcfg]
    exact LoadedConfig.coalescing_pos hgood

/-! ## What keeps the ring -/

/-- Counts, phase and configuration are the same; a write in progress has its slot; fewer records may be unannounced. -/
theorem State.ringSound.of_counts (h : s.ringSound) (hloaded : t.loaded = s.loaded)
    (hproducer : t.writer.producer = s.writer.producer) (hconsumed : t.writer.consumed = s.writer.consumed)
    (hphase : t.writer.phase = s.writer.phase)
    (hwrite : t.writer.write.isSome → s.outstandingCompletions < s.complSize)
    (hunannounced : t.writer.unannounced = 0 ∧ t.writer.holdoff = none ∨
      t.writer.unannounced = s.writer.unannounced ∧ (t.writer.holdoff.isSome → s.writer.holdoff.isSome)) :
    t.ringSound := by
  obtain ⟨hgood, hfull, -, hph, hcount, hholdoff⟩ := h
  obtain ⟨hsize, hcoalescing⟩ := State.complSize_congr hloaded
  have hout : t.outstandingCompletions = s.outstandingCompletions := by
    simp [State.outstandingCompletions, hproducer, hconsumed]
  refine ⟨hloaded ▸ hgood, by rw [hout, hsize]; exact hfull, by rw [hout, hsize]; exact hwrite,
    by rw [hphase, hproducer, hsize]; exact hph, ?_, ?_⟩
  · obtain ⟨h0, -⟩ | ⟨hsame, -⟩ := hunannounced
    · exact .inl h0
    · rw [hsame, hcoalescing]; exact hcount
  · obtain ⟨-, h0⟩ | ⟨hsame, hless⟩ := hunannounced
    · simp [h0]
    · rw [hsame]; exact fun ht => hholdoff (hless ht)

/-- The writer and the configuration are the same. -/
theorem State.ringSound.of_writer (h : s.ringSound) (hloaded : t.loaded = s.loaded) (hwriter : t.writer = s.writer) :
    t.ringSound :=
  h.of_counts hloaded (by rw [hwriter]) (by rw [hwriter]) (by rw [hwriter]) (by rw [hwriter]; exact h.2.2.1)
    (.inr (by rw [hwriter]; exact ⟨rfl, id⟩))

/-- A writer that has written nothing since its start. -/
theorem State.ringSound.of_initial (hwriter : t.writer = Writer.initial) (hgood : ∀ c ∈ t.loaded, c.firstBadField = none) :
    t.ringSound := by
  refine ⟨hgood, ?_, ?_, ?_, .inl (by rw [hwriter]; rfl), ?_⟩
  · have hnone : t.outstandingCompletions = 0 := by rw [State.outstandingCompletions, hwriter]; rfl
    rw [hnone]
    exact Nat.zero_le _
  · simp [hwriter, Writer.initial]
  · have hzero : t.writer.producer.toNat = 0 := by rw [hwriter]; rfl
    rw [hzero, hwriter, phaseOf, Nat.zero_div]
    rfl
  · simp [hwriter, Writer.initial]

theorem State.settleFrom_ringSound (before : State) (h : s.ringSound) : (State.settleFrom before s).ringSound := by
  refine State.settleFrom_keeps before (fun u t hu ht => ?_) (fun u t l hu ht => ?_) (fun u t hu ht => ?_)
    (fun u t fresh hu ht => ?_) (fun u hu _ => ?_) (fun u hu => hu.of_writer rfl rfl) s h
  · obtain ⟨-, -, -, -, hwriter, -, -, -, hloaded⟩ := State.fetchBegin_leaves ht
    exact hu.of_writer hloaded hwriter
  · obtain ⟨ln, cache, -, rfl⟩ := State.engineMove_cases ht
    exact hu.of_writer rfl rfl
  · obtain ⟨c, rest, -, -, rfl⟩ := State.servicePlace_cases ht
    exact hu.of_writer rfl rfl
  · obtain ⟨hmay, k, c, n, v, rfl, hsource⟩ := State.take_source ht
    obtain ⟨-, -, hroom⟩ := u.mayTake_iff.mp hmay
    obtain ⟨l, -, rfl⟩ | ⟨-, rfl⟩ := hsource <;> exact hu.of_counts rfl rfl rfl rfl (fun _ => hroom) (.inr ⟨rfl, id⟩)
  · rw [State.enterHalted_eq]
    refine hu.of_counts rfl rfl rfl rfl hu.2.2.1 ?_
    dsimp only
    split
    · exact .inl ⟨rfl, rfl⟩
    · exact .inr ⟨rfl, id⟩

/-- A record written takes the slot its write had, and its count is announced where the coalescing count is reached (R151,
R154). -/
theorem State.Sound.written_ringSound (h : s.Sound) (hserving : s.serving = true) (hwrite : s.writer.write.isSome) :
    s.countWritten.announceDue.ringSound := by
  obtain ⟨hgood, -, hslot, hphase, hcount, -⟩ := h.ring
  have hloaded := (h.serving_of_busy (l := 0) (.inl hserving)).2
  obtain ⟨hpos, hmax, ⟨k, hk⟩, hcoalescing⟩ := h.complSize hloaded
  have hless : s.outstandingCompletions < 65535 := by
    have := hslot hwrite
    omega
  have hout : s.countWritten.outstandingCompletions = s.outstandingCompletions + 1 := toNat_next_sub hless
  have hphase' : s.countWritten.writer.phase = phaseOf s.countWritten.writer.producer.toNat s.complSize := by
    show (if _ then _ else _) = _
    rw [hphase]
    exact (phaseOf_next hpos hk).symm
  have hfull : s.countWritten.outstandingCompletions ≤ s.complSize := by rw [hout]; exact hslot hwrite
  unfold State.announceDue
  split
  · exact ⟨hgood, hfull, nofun, hphase', .inl rfl, nofun⟩
  · next hdue =>
    have hless : s.writer.unannounced + 1 < s.coalescing := by
      by_contra hge
      exact hdue (.inl (Nat.le_of_not_lt hge))
    exact ⟨hgood, hfull, nofun, hphase', .inr hless, fun _ => Nat.succ_pos _⟩

theorem State.Effect.ringSound (heffect : s.Effect c u) (h : s.Sound) : u.ringSound := by
  have hring := h.ring
  cases heffect with
  | window u hn hu => exact hring.of_writer (by rw [hu]) (by rw [hu])
  | powerOn hc => exact .of_initial rfl nofun
  | reset hn hacts => exact .of_initial rfl hring.1
  | loadBegins hn hd =>
    rw [State.startCommand_of_halted hd]
    exact hring.of_writer rfl rfl
  | started cfg hn hd hread hgood =>
    refine .of_initial rfl (fun c hc => ?_)
    obtain rfl := Option.some.inj hc
    exact hgood
  | fetched r tail u hn hd hu =>
    obtain ⟨-, -, -, -, hwriter, -, -, -, hloaded⟩ := State.fetchBegin_leaves hu
    exact hring.of_writer hloaded hwriter
  | consumed i n hn hle =>
    obtain ⟨hgood, hfull, hslot, hphase, hcount, hholdoff⟩ := hring
    have hout := toNat_sub_consumed hle
    refine ⟨hgood, ?_, fun hw => ?_, hphase, hcount, hholdoff⟩
    · show (s.writer.producer - (s.writer.consumed + BitVec.ofNat 16 n)).toNat ≤ s.complSize
      rw [hout]
      exact (Nat.sub_le _ _).trans hfull
    · show (s.writer.producer - (s.writer.consumed + BitVec.ofNat 16 n)).toNat < s.complSize
      rw [hout]
      exact Nat.lt_of_le_of_lt (Nat.sub_le _ _) (hslot hw)
  | announced hn => exact hring.of_counts rfl rfl rfl rfl hring.2.2.1 (.inl ⟨rfl, rfl⟩)
  | holdoffStopped hn => exact hring.of_counts rfl rfl rfl rfl hring.2.2.1 (.inr ⟨rfl, nofun⟩)
  | taken r data hc hf =>
    refine hring.of_writer (s.recordTaken_sameValues r data).loaded ?_
    cases hr : ringTarget r with
    | some target =>
      obtain ⟨l, side⟩ := target
      rw [State.recordTaken_of_request hr]
      rfl
    | none =>
      rw [State.recordTaken_of_supply hr]
      obtain ⟨-, -, h⟩ | ⟨-, -, h⟩ | ⟨-, h⟩ := (s.indexMoved r).supplyTaken_cases (SupplyRecord.ofBytes (exactly 16 data)) <;>
        rw [h] <;> rfl
  | readFailed r hn hf =>
    obtain ⟨l, side, -, h⟩ | ⟨-, h⟩ := s.release_cases r <;> rw [h] <;> exact hring.of_writer rfl rfl
  | written hc hserving hwrite => exact h.written_ringSound hserving hwrite
  | faulted hc hserving hwrite =>
    exact hring.of_counts rfl rfl rfl rfl nofun (.inr ⟨rfl, nofun⟩)
  | _ => exact hring.of_writer rfl rfl

end

/-- Settles O8: every effect and every move keeps the completion ring sound. -/
theorem stepKeepsCompletionRing : Obligations.StepKeepsCompletionRing := by
  intro s t hsound hstep
  refine step_establishes (P := State.ringSound) (fun s hs => ?_) (fun s u c hs hu => hu.ringSound hs)
    (fun before u hu => State.settleFrom_ringSound before hu) hsound hstep
  cases hserving : s.serving with
  | true =>
    rw [State.tick_of_serving hserving]
    exact hs.ring.of_counts rfl rfl rfl rfl hs.ring.2.2.1 (.inr ⟨rfl, by simp [Timer.tick]⟩)
  | false => rw [State.tick_of_not_serving hserving]; exact hs.ring

end Sys2Proof.Machine
end

section
/-! PROOFS. What the device state says of lines, fetcher, writer and loader, and that HALTED and LOADING hold nothing taken
(R157, R162, R164 to R168). -/

namespace Sys2Proof.Machine

/-! ## What the device state says of a line -/

/-- An engine in RUNNING: neither INACTIVE nor FROZEN, and in no step of a cancellation. -/
structure Line.InRunning (ln : Line) : Prop where
  active : ln.engine.state ≠ .inactive
  thawed : ln.engine.state ≠ .frozen
  cont : ln.engine.cont.stops = false

/-- An engine in STOPPING, where `fetching` says whether a fetch for one of its queues is in progress (R94, R164, R165). -/
structure Line.InStopping (fetching : Bool) (ln : Line) : Prop where
  thawed : ln.engine.state ≠ .frozen
  off : ln.engine.state = .inactive ∨ ln.engine.cont = .stopDone →
    ln.driver.state = .off ∧ ln.engine.lineUpOwed = false
  effects : ln.engine.cont.stops = true → ∀ o ∈ ln.engine.owed, o.effect ≠ .driverFailed
  empty : ln.engine.state = .inactive ∨ ln.engine.cont.stops = true →
    ln.engine.urgent = [] ∧ ln.engine.routine = [] ∧ ln.engine.collection = none ∧ fetching = false
  settled : ln.engine.state = .inactive → ln.engine.owed = []

/-- What the device state says of a line (R157). -/
def Line.fitsDevice (d : DeviceState) (fetching : Bool) (ln : Line) : Prop :=
  match d with
  | .halted => ln.engine.state = .inactive ∧ ln.driver.state = .off
  | .loading => ln.engine.state = .inactive ∧ ln.driver.state = .off
  | .running => ln.InRunning
  | .stopping => ln.InStopping fetching
  | .faulted => ln.engine.state = .frozen ∧ ln.driver.state = .off

theorem Line.inRunning_iff (ln : Line) : ln.InRunning ↔
    ln.engine.state ≠ .inactive ∧ ln.engine.state ≠ .frozen ∧ ln.engine.cont.stops = false :=
  ⟨fun ⟨h1, h2, h3⟩ => ⟨h1, h2, h3⟩, fun ⟨h1, h2, h3⟩ => ⟨h1, h2, h3⟩⟩

theorem Line.inStopping_iff (fetching : Bool) (ln : Line) : ln.InStopping fetching ↔
    ln.engine.state ≠ .frozen ∧
      (ln.engine.state = .inactive ∨ ln.engine.cont = .stopDone → ln.driver.state = .off ∧ ln.engine.lineUpOwed = false) ∧
      (ln.engine.cont.stops = true → ∀ o ∈ ln.engine.owed, o.effect ≠ .driverFailed) ∧
      (ln.engine.state = .inactive ∨ ln.engine.cont.stops = true →
        ln.engine.urgent = [] ∧ ln.engine.routine = [] ∧ ln.engine.collection = none ∧ fetching = false) ∧
      (ln.engine.state = .inactive → ln.engine.owed = []) :=
  ⟨fun ⟨h1, h2, h3, h4, h5⟩ => ⟨h1, h2, h3, h4, h5⟩, fun ⟨h1, h2, h3, h4, h5⟩ => ⟨h1, h2, h3, h4, h5⟩⟩

/-- The device invariant, line by line. -/
theorem State.deviceSound_iff (s : State) : s.deviceSound ↔
    (s.loader.isSome ↔ s.device = .loading) ∧ (∀ l, (s.line l).fitsDevice s.device (s.fetchingFor l)) ∧
      (s.serving = true → s.loaded.isSome) ∧
      (s.serving = false → s.fetcher.fetch = none ∧ s.writer.write = none) := by
  unfold State.deviceSound
  cases hd : s.device <;>
    simp only [State.serving, hd, Line.fitsDevice, Line.inRunning_iff, Line.inStopping_iff] <;> simp [and_comm]

/-- Outside a cancellation there is nothing more to say. -/
theorem Line.InRunning.inStopping {ln : Line} (h : ln.InRunning) (fetching : Bool) : ln.InStopping fetching where
  thawed := h.thawed
  off hoff := by
    obtain hoff | hoff := hoff
    · exact absurd hoff h.active
    · exact absurd h.cont (by simp [hoff, Cont.stops])
  effects hstops := absurd hstops (by simp [h.cont])
  empty hstops := by
    obtain hstops | hstops := hstops
    · exact absurd hstops h.active
    · exact absurd hstops (by simp [h.cont])
  settled hinactive := absurd hinactive h.active

theorem Line.InStopping.ended {ln : Line} {fetching : Bool} (h : ln.InStopping fetching) : ln.InStopping false where
  thawed := h.thawed
  off := h.off
  effects := h.effects
  empty hstops := by
    obtain ⟨hu, hr, hk, -⟩ := h.empty hstops
    exact ⟨hu, hr, hk, rfl⟩
  settled := h.settled

/-- Changes that leave the engine's state and cont, its queues, its collection, its owed records and what brings LINE_UP. -/
theorem Line.fitsDevice.of_eq {a b : Line} {d : DeviceState} {fetching : Bool} (h : a.fitsDevice d fetching)
    (hdriver : b.driver.state = a.driver.state) (hstate : b.engine.state = a.engine.state)
    (hcont : b.engine.cont = a.engine.cont) (hu : b.engine.urgent = a.engine.urgent)
    (hr : b.engine.routine = a.engine.routine) (hk : b.engine.collection = a.engine.collection)
    (howed : b.engine.owed = a.engine.owed) (hup : b.engine.lineUpOwed = a.engine.lineUpOwed) :
    b.fitsDevice d fetching := by
  cases d <;>
    simpa only [Line.fitsDevice, Line.inRunning_iff, Line.inStopping_iff, hdriver, hstate, hcont, hu, hr, hk, howed, hup] using h

/-! ## Small changes and units -/

section
variable {x : LineCtx} {d : DeviceState} {a b : Line} {fetching : Bool}

/-- Outside STOPPING no small change begins a step of the cancellation. -/
theorem Line.Change.cont (h : Line.Change x .running a b) : b.engine.cont = a.engine.cont ∨ b.engine.cont.stops = false := by
  cases h with
  | setCont k hk => exact .inr hk
  | stopCont k hd => cases hd
  | cancelQueues => exact .inl (by simp [Line.produceAll_eq])
  | _ => exact .inl (by simp)

theorem Line.Change.inRunning (h : Line.Change x .running a b) (ha : a.InRunning) : b.InRunning := by
  obtain ⟨-, hstate, -⟩ := h.leaves
  refine ⟨hstate ▸ ha.active, hstate ▸ ha.thawed, ?_⟩
  obtain hcont | hcont := h.cont
  · rw [hcont]; exact ha.cont
  · exact hcont

theorem Line.Quiet.inRunning (h : Line.Quiet x .running a b) (ha : a.InRunning) : b.InRunning :=
  h.keeps (P := Line.InRunning) (fun _ _ hm hc => hc.inRunning hm) ha

/-- The end of a unit outside a cancellation: the engine is IDLE, EXCHANGING or as it was. -/
theorem Line.Ending.inRunning (h : Line.Ending a b) (ha : a.InRunning) : b.InRunning := by
  cases h with
  | none => exact ha
  | handOver p f hf =>
    refine ⟨?_, ?_, by simp [Cont.stops]⟩ <;>
      obtain ⟨-, h⟩ | ⟨-, -, h⟩ | ⟨-, -, h⟩ := a.handOver_cases p f <;> simp [h]
  | access k => exact ⟨nofun, nofun, rfl⟩
  | inactive hcont => exact absurd ha.cont (by simp [hcont, Cont.stops])

theorem Line.Unit.inRunning (h : Line.Unit x .running a b) (ha : a.InRunning) : b.InRunning := by
  obtain ⟨m, hquiet, hend⟩ := h
  exact hend.inRunning (hquiet.inRunning ha)

/-- The owed records of `b` are those of `a` and records whose placing changes nothing else (R93). -/
def Line.OwesPlain (a b : Line) : Prop := ∀ o ∈ b.engine.owed, o ∈ a.engine.owed ∨ o.effect = .none

theorem Line.OwesPlain.of_append {more : List Owed} (howed : b.engine.owed = a.engine.owed ++ more)
    (hmore : ∀ o ∈ more, o.effect = .none) : a.OwesPlain b := fun o ho => by
  rw [howed] at ho
  obtain ho | ho := List.mem_append.mp ho
  · exact .inl ho
  · exact .inr (hmore o ho)

theorem Line.OwesPlain.of_eq (howed : b.engine.owed = a.engine.owed) : a.OwesPlain b :=
  .of_append (more := []) (by simp [howed]) (by simp)

theorem Line.OwesPlain.trans {a b c : Line} (h : a.OwesPlain b) (h' : b.OwesPlain c) : a.OwesPlain c := fun o ho => by
  obtain ho | ho := h' o ho
  · exact h o ho
  · exact .inr ho

theorem Line.completeUrgent_owes (ln : Line) (l : LineId) (code : Code) (count : Nat) (detail : BitVec 32) :
    ln.OwesPlain (ln.completeUrgent l code count detail) := by
  obtain ⟨-, h⟩ | ⟨r, rest, -, h⟩ := ln.completeUrgent_cases l code count detail <;> rw [h]
  · exact .of_eq rfl
  · exact .of_append rfl (by simp)

theorem Line.completeRoutine_owes (ln : Line) (l : LineId) (code : Code) (count : Nat) (detail : BitVec 32) :
    ln.OwesPlain (ln.completeRoutine l code count detail) := by
  obtain ⟨-, h⟩ | ⟨r, rest, -, h⟩ := ln.completeRoutine_cases l code count detail <;> rw [h]
  · exact .of_eq rfl
  · exact .of_append rfl (by simp)

theorem Line.completeActive_owes (ln : Line) (l : LineId) (code : Code) (detail : BitVec 32) :
    ln.OwesPlain (ln.completeActive l code detail) := by
  obtain ⟨-, h⟩ | ⟨t, -, h⟩ := ln.completeActive_eq l code detail <;> rw [h]
  · exact .of_eq rfl
  · exact ln.completeRoutine_owes _ _ _ _

theorem Line.returnCollection_owes (ln : Line) (l : LineId) (code : Code) : ln.OwesPlain (ln.returnCollection l code) := by
  obtain ⟨-, h⟩ | ⟨k, -, -, h⟩ | ⟨k, b, -, -, h⟩ := ln.returnCollection_cases l code <;> rw [h]
  · exact .of_eq rfl
  · exact .of_eq rfl
  · exact .of_append rfl (by simp)

theorem Line.produceAll_owes (ln : Line) (cs : List Completion) : ln.OwesPlain (ln.produceAll cs) := by
  rw [Line.produceAll_eq]
  refine .of_append rfl (fun o ho => ?_)
  obtain ⟨c, -, rfl⟩ := List.mem_map.mp ho
  rfl

/-- What a small change adds to the owed records is not LINE_FAILED, where a step of the cancellation is under way. -/
theorem Line.Change.owed (h : Line.Change x .running a b) (hstops : a.engine.cont.stops = true) :
    ∀ o ∈ b.engine.owed, o ∈ a.engine.owed ∨ o.effect ≠ .driverFailed := by
  have hplain : a.OwesPlain b → ∀ o ∈ b.engine.owed, o ∈ a.engine.owed ∨ o.effect ≠ .driverFailed := fun hb o ho =>
    (hb o ho).imp_right (fun he => by simp [he])
  cases h with
  | place o rest hslot howed => exact fun p hp => .inl (by simp only [Line.place_leaves] at hp; simp [howed, hp])
  | event c e hc he =>
    intro o ho
    obtain ho | ho := List.mem_append.mp ho
    · exact .inl ho
    · obtain rfl := List.mem_singleton.mp ho
      exact .inr (fun heffect => absurd hstops (by simp [he heffect]))
  | completeUrgent code count detail => exact hplain (a.completeUrgent_owes _ _ _ _)
  | completeRoutine code count detail => exact hplain (a.completeRoutine_owes _ _ _ _)
  | returnCollection code => exact hplain (a.returnCollection_owes _ _)
  | removeWaiting p r detail hr => exact hplain (.of_append (more := [⟨_, .none⟩]) (by simp; rfl) (by simp))
  | cancelQueues hnone => exact hplain (Line.produceAll_owes _ _)
  | _ => exact hplain (.of_eq (by simp))

/-- Within a step of the cancellation a small change brings no work, no LINE_UP and no supply. -/
theorem Line.Change.inStopping (h : Line.Change x .running a b) (ha : a.InStopping fetching)
    (hactive : a.engine.state ≠ .inactive) : b.InStopping fetching := by
  obtain ⟨-, hstate, -⟩ := h.leaves
  cases hstops : a.engine.cont.stops with
  | false => exact (h.inRunning ⟨hactive, ha.thawed, hstops⟩).inStopping _
  | true =>
    obtain ⟨hu, hr, hk, hfetching⟩ := ha.empty (.inr hstops)
    obtain ⟨hlu, hlr⟩ := h.queues
    have hdriver : a.engine.cont = .stopDone → b.driver.state = .off ∧ b.engine.lineUpOwed = false := fun hdone => by
      obtain ⟨hoff, hup⟩ := ha.off (.inr hdone)
      cases h with
      | place o rest hslot howed =>
        have hnot : o.effect ≠ .driverFailed := ha.effects hstops o (by simp [howed])
        exact ⟨by rw [Line.place_driver, if_neg hnot]; exact hoff, by simp [hup]⟩
      | driver v hv hrestarts hrounds hstop => exact ⟨hstop hdone, hup⟩
      | cancelQueues => simp [Line.produceAll_eq, hoff, hup]
      | _ => simp [hoff, hup]
    have hcollection : b.engine.collection = none := by
      cases h with
      | updateCollection k k' hsome => simp [hk] at hsome
      | cancelQueues => simp [Line.produceAll_eq, hk]
      | _ => simp [hk]
    obtain hcont | hcont := h.cont
    · refine ⟨hstate ▸ ha.thawed, fun hoff => ?_, fun _ o ho => ?_, fun _ => ⟨?_, ?_, hcollection, hfetching⟩, fun hi => ?_⟩
      · obtain hi | hdone := hoff
        · exact absurd (hstate.symm.trans hi) hactive
        · exact hdriver (hcont ▸ hdone)
      · obtain ho | ho := h.owed hstops o ho
        · exact ha.effects hstops o ho
        · exact ho
      · exact List.eq_nil_of_length_eq_zero (by rw [hu] at hlu; simpa using hlu)
      · exact List.eq_nil_of_length_eq_zero (by rw [hr] at hlr; simpa using hlr)
      · exact absurd (hstate.symm.trans hi) hactive
    · exact Line.InRunning.inStopping ⟨hstate ▸ hactive, hstate ▸ ha.thawed, hcont⟩ _

/-- The last step of a cancellation is only begun within one. -/
theorem Line.Change.notDone (h : Line.Change x .running a b) (ha : a.engine.cont ≠ .stopDone) : b.engine.cont ≠ .stopDone := by
  obtain hcont | hcont := h.cont
  · rw [hcont]; exact ha
  · exact fun hdone => by simp [hdone, Cont.stops] at hcont

/-- A unit that is no part of the cancellation, from an engine that is not at its last step. -/
theorem Line.Unit.inStopping (h : Line.Unit x .running a b) (ha : a.InStopping fetching)
    (hactive : a.engine.state ≠ .inactive) (hcont : a.engine.cont ≠ .stopDone) : b.InStopping fetching := by
  obtain ⟨m, hquiet, hend⟩ := h
  obtain ⟨hm, hmactive, hmcont⟩ : m.InStopping fetching ∧ m.engine.state ≠ .inactive ∧ m.engine.cont ≠ .stopDone := by
    refine hquiet.keeps (P := fun m => m.InStopping fetching ∧ m.engine.state ≠ .inactive ∧ m.engine.cont ≠ .stopDone)
      (fun p q ⟨hp, hpactive, hpcont⟩ hc => ?_) ⟨ha, hactive, hcont⟩
    exact ⟨hc.inStopping hp hpactive, hc.leaves.2.1 ▸ hpactive, hc.notDone hpcont⟩
  cases hend with
  | none => exact hm
  | inactive hdone => exact absurd hdone hmcont
  | handOver p f hf =>
    refine Line.InRunning.inStopping ⟨?_, ?_, by simp [Cont.stops]⟩ _ <;>
      obtain ⟨-, h⟩ | ⟨-, -, h⟩ | ⟨-, -, h⟩ := m.handOver_cases p f <;> simp [h]
  | access k => exact Line.InRunning.inStopping (ln := m.startAccess k) ⟨nofun, nofun, rfl⟩ _

theorem Line.Granted.inRunning {cache cache' : List SupplyRecord} (h : Line.Granted a b cache cache') : b.InRunning := by
  have hcont := h.leaves.2.2.2.2.2.2.2.2.2.1
  obtain ⟨k, r, -, -, -, rfl⟩ := h
  refine ⟨?_, ?_, by rw [hcont]; rfl⟩ <;> unfold Line.sendCollect <;>
    obtain ⟨-, h⟩ | ⟨-, -, h⟩ | ⟨-, -, h⟩ := Line.handOver_cases _ _ _ <;> rw [h] <;> simp

/-- A step of the cancellation (R165). -/
theorem Line.StopStep.inStopping {env : EngineEnv} (h : Line.StopStep x env a b) (ha : a.InStopping env.fetching)
    (hactive : a.engine.state ≠ .inactive) (howed : a.engine.owed = []) : b.InStopping env.fetching := by
  cases h with
  | cancel hdevice hfetching hcont hup htrip =>
    have howes : a.OwesPlain (a.cancel x.line) := by
      refine .trans (b := a.completeActive x.line .cancelled 0) (a.completeActive_owes _ _ _) ?_
      refine .trans (.trans ?_ (Line.produceAll_owes _ _)) (Line.returnCollection_owes _ _ _)
      exact .of_eq rfl
    have hleaves : (a.cancel x.line).engine.state = a.engine.state ∧ (a.cancel x.line).engine.urgent = [] ∧
        (a.cancel x.line).engine.routine = [] ∧ (a.cancel x.line).engine.collection = none ∧
        (a.cancel x.line).engine.cont = .stopLineOff := by
      simp [Line.cancel, Line.produceAll_eq]
    obtain ⟨hstate, hu, hr, hk, hcont'⟩ := hleaves
    refine ⟨hstate ▸ ha.thawed, fun hoff => ?_, fun _ o ho heffect => ?_, fun _ => ⟨hu, hr, hk, hfetching⟩, fun hi => ?_⟩
    · obtain hi | hdone := hoff
      · exact absurd (hstate.symm.trans hi) hactive
      · simp [hcont'] at hdone
    · obtain ho | ho := howes o ho
      · simp [howed] at ho
      · simp [ho] at heffect
    · exact absurd (hstate.symm.trans hi) hactive
  | alreadyOff hcont hup hoff =>
    have hstops : a.engine.cont.stops = true := by rw [hcont]; rfl
    exact ⟨ha.thawed, fun _ => ⟨hoff, hup⟩, fun _ => ha.effects hstops, fun _ => ha.empty (.inr hstops), ha.settled⟩
  | lineOff hcont hup =>
    have hstops : a.engine.cont.stops = true := by rw [hcont]; rfl
    obtain ⟨hu, hr, hk, hfetching⟩ := ha.empty (.inr hstops)
    have hleaves : (a.cancelLineOff x.line).engine.state = a.engine.state ∧ (a.cancelLineOff x.line).engine.urgent = [] ∧
        (a.cancelLineOff x.line).engine.routine = [] ∧ (a.cancelLineOff x.line).engine.collection = none ∧
        (a.cancelLineOff x.line).driver.state = .off ∧ (a.cancelLineOff x.line).engine.lineUpOwed = false ∧
        (a.cancelLineOff x.line).engine.owed = [⟨lineEvent x.line .lineOff 0, .clearEntries⟩] := by
      obtain ⟨-, h⟩ | ⟨-, h⟩ := a.turnOff_cases <;>
        simp [Line.cancelLineOff, h, Driver.turnOff, Line.leaveUp, hu, hr, hk, hup, howed]
    obtain ⟨hstate, hu', hr', hk', hoff, hup', howed'⟩ := hleaves
    refine ⟨hstate ▸ ha.thawed, fun _ => ⟨hoff, hup'⟩, fun _ o ho => ?_, fun _ => ⟨hu', hr', hk', hfetching⟩, fun hi => ?_⟩
    · rw [howed'] at ho
      obtain rfl := List.mem_singleton.mp ho
      simp
    · exact absurd (hstate.symm.trans hi) hactive
  | done hcont =>
    have hstops : a.engine.cont.stops = true := by rw [hcont]; rfl
    exact ⟨nofun, fun _ => ha.off (.inr hcont), nofun, fun _ => ha.empty (.inr hstops), fun _ => howed⟩

/-! ## A move of an engine -/

/-- An engine with an owed record places it (R95). -/
theorem Line.engineStep_of_owed {env : EngineEnv} {cache cache' : List SupplyRecord} {o : Owed} {rest : List Owed}
    (howed : a.engine.owed = o :: rest) (h : a.engineStep x env cache = some (b, cache')) :
    a.engine.slot = none ∧ b = a.place o rest := by
  unfold Line.engineStep at h
  rw [howed] at h
  dsimp only at h
  split at h
  · split at h
    · cases h
    · next hslot =>
      cases h
      exact ⟨by simpa using hslot, rfl⟩
  · cases h

/-- The last step of a cancellation leaves the engine INACTIVE (R165). -/
theorem Line.engineStep_of_done {env : EngineEnv} {cache cache' : List SupplyRecord} (howed : a.engine.owed = [])
    (hcont : a.engine.cont = .stopDone) (h : a.engineStep x env cache = some (b, cache')) :
    b = { a with engine := { a.engine with state := .inactive, cont := .boundary } } := by
  unfold Line.engineStep Line.proceed at h
  rw [howed, hcont] at h
  dsimp only at h
  split at h
  · cases h; rfl
  · cases h

/-- A move of an engine keeps what the device state says of its line. -/
theorem Line.engineStep_fitsDevice {env : EngineEnv} {cache cache' : List SupplyRecord}
    (h : a.engineStep x env cache = some (b, cache')) (ha : a.fitsDevice env.device env.fetching) :
    b.fitsDevice env.device env.fetching := by
  obtain ⟨hstate, hwork⟩ := Line.engineStep_work h
  have hactive : a.engine.state ≠ .inactive := by rcases hstate with h | h <;> simp [h]
  have hthawed : a.engine.state ≠ .frozen := by rcases hstate with h | h <;> simp [h]
  cases hd : env.device with
  | halted => rw [hd] at ha; exact absurd ha.1 hactive
  | loading => rw [hd] at ha; exact absurd ha.1 hactive
  | faulted => rw [hd] at ha; exact absurd ha.1 hthawed
  | running =>
    rw [hd] at ha
    obtain ⟨-, hunit⟩ | hgrant | ⟨-, -, hstop⟩ := hwork
    · exact hunit.inRunning ha
    · exact hgrant.inRunning
    · have hcont := ha.cont
      cases hstop with
      | cancel hstopping => rw [hd] at hstopping; cases hstopping
      | alreadyOff hlast => simp [hlast, Cont.stops] at hcont
      | lineOff hlast => simp [hlast, Cont.stops] at hcont
      | done hlast => simp [hlast, Cont.stops] at hcont
  | stopping =>
    rw [hd] at ha
    cases howed : a.engine.owed with
    | cons o rest =>
      obtain ⟨hslot, rfl⟩ := Line.engineStep_of_owed howed h
      exact Line.Change.inStopping (.place (x := x) a o rest hslot howed) ha hactive
    | nil =>
      obtain ⟨-, hunit⟩ | hgrant | ⟨-, -, hstop⟩ := hwork
      · by_cases hdone : a.engine.cont = .stopDone
        · obtain rfl := Line.engineStep_of_done howed hdone h
          exact Line.StopStep.inStopping (x := x) (env := env) (.done hdone) ha hactive howed
        · exact hunit.inStopping ha hactive hdone
      · exact hgrant.inRunning.inStopping _
      · exact hstop.inStopping ha hactive howed

/-! ## Happenings -/

/-- After an exchange the engine is at no step of a cancellation. -/
theorem Line.exchangeEnd_inRunning (a : Line) (x : LineCtx) (res : ExchangeResult) : (a.exchangeEnd x res).InRunning := by
  obtain ⟨-, h⟩ | ⟨p, f, -, -, ⟨-, h⟩ | ⟨-, hend⟩⟩ := Line.exchangeEnd_cases x .running a res
  · rw [h]; exact ⟨nofun, nofun, rfl⟩
  · rw [h]; exact ⟨by simp, by simp, by simp [Cont.stops]⟩
  · have happlied : (a.exchangeApplied x f res).InRunning := ⟨by simp, by simp, by simp [Cont.stops]⟩
    obtain hquiet | ⟨k, -, hquiet⟩ | ⟨-, k, -, h⟩ := hend
    · exact hquiet.inRunning happlied
    · exact hquiet.inRunning ⟨happlied.active, happlied.thawed, happlied.cont⟩
    · rw [h]; exact ⟨happlied.active, happlied.thawed, happlied.cont⟩

/-- The line whose driver has tripped, before the exchange on its wire ends (R26, R27). -/
def Line.tripped (ln : Line) : Line :=
  let m := { ln with
    driver := { ln.driver with state := .tripped, settle := none }, engine := { ln.engine with tripPending := true } }
  if ln.driver.state = .up then m.leaveUp else m

theorem Line.trip_eq (ln : Line) (x : LineCtx) :
    ln.trip x = if ln.xcvr.state = .idle then ln.tripped else ln.tripped.exchangeEnd x ln.xcvr.cutOffResult := rfl

/-- A trip takes no work from the engine but a collection without a buffer (R27). -/
theorem Line.tripped_leaves (ln : Line) :
    ln.tripped.engine.state = ln.engine.state ∧ ln.tripped.engine.cont = ln.engine.cont ∧
      ln.tripped.engine.urgent = ln.engine.urgent ∧ ln.tripped.engine.routine = ln.engine.routine ∧
      (ln.engine.collection = none → ln.tripped.engine.collection = none) ∧ ln.tripped.engine.owed = ln.engine.owed := by
  unfold Line.tripped
  dsimp only
  split
  · exact ⟨rfl, rfl, rfl, rfl, fun h => by simp [Line.leaveUp, h], rfl⟩
  · exact ⟨rfl, rfl, rfl, rfl, id, rfl⟩

theorem Line.Happening.inRunning {c : Instr} (h : Line.Happening x c a b) (ha : a.InRunning) : b.InRunning := by
  cases h with
  | trip hst =>
    obtain ⟨hstate, hcont, -⟩ := a.tripped_leaves
    rw [Line.trip_eq]
    split
    · exact ⟨hstate ▸ ha.active, hstate ▸ ha.thawed, hcont ▸ ha.cont⟩
    · exact Line.exchangeEnd_inRunning _ x _
  | failed g hst => exact a.exchangeEnd_inRunning x _
  | valid rx f r hc hst hf hjudge => exact a.exchangeEnd_inRunning x _
  | accessEnd b hst haccess hunit => exact Line.Unit.inRunning (a := a.endWork) hunit ⟨nofun, nofun, rfl⟩
  | _ => exact ⟨ha.active, ha.thawed, ha.cont⟩

/-- A happening in STOPPING: a line whose engine is INACTIVE or at its last step is OFF, so that nothing happens to its
supply (R23). -/
theorem Line.Happening.inStopping {c : Instr} (h : Line.Happening x c a b) (ha : a.InStopping fetching) :
    b.InStopping fetching := by
  have hon : a.driver.state ≠ .off → ¬ (a.engine.state = .inactive ∨ a.engine.cont = .stopDone) :=
    fun hnot hoff => hnot (ha.off hoff).1
  cases h with
  | comeUp hst =>
    exact ⟨ha.thawed, fun hoff => absurd hoff (hon (by simp [hst])), ha.effects, ha.empty, ha.settled⟩
  | supply hst =>
    exact ⟨ha.thawed, fun hoff => absurd hoff (hon (by simp [hst])), ha.effects, ha.empty, ha.settled⟩
  | trip hst =>
    have hnot := hon (by rcases hst with h | h <;> simp [h])
    obtain ⟨hstate, hcont, hu, hr, hk, howed⟩ := a.tripped_leaves
    rw [Line.trip_eq]
    split
    · refine ⟨hstate ▸ ha.thawed, fun hoff => absurd hoff (by rw [hstate, hcont]; exact hnot),
        fun hstops => by rw [howed]; exact ha.effects (hcont ▸ hstops), fun hstops => ?_,
        fun hi => absurd (.inl (hstate ▸ hi)) hnot⟩
      rw [hstate, hcont] at hstops
      obtain ⟨h1, h2, h3, h4⟩ := ha.empty hstops
      exact ⟨hu.trans h1, hr.trans h2, hk h3, h4⟩
    · exact (Line.exchangeEnd_inRunning _ x _).inStopping _
  | failed g hst => exact (a.exchangeEnd_inRunning x _).inStopping _
  | valid rx f r hc hst hf hjudge => exact (a.exchangeEnd_inRunning x _).inStopping _
  | accessEnd b hst haccess hunit =>
    exact (Line.Unit.inRunning (a := a.endWork) hunit ⟨nofun, nofun, rfl⟩).inStopping _
  | _ => exact ⟨ha.thawed, ha.off, ha.effects, ha.empty, ha.settled⟩

end

end Sys2Proof.Machine
end

section
/-! PROOFS. The device state and the blocks, step by step, and that HALTED and LOADING hold nothing taken (R157, R166, R168). -/

namespace Sys2Proof.Machine

section
variable {s t u : State} {c : Instr}

theorem Line.fitsDevice.stopping_ended {ln : Line} {d : DeviceState} {fetching : Bool} (h : ln.fitsDevice d fetching) :
    ln.fitsDevice d false := by
  cases d with
  | stopping => exact Line.InStopping.ended h
  | _ => exact h

theorem Line.fitsDevice.setReserved {ln : Line} {d : DeviceState} {fetching : Bool} (h : ln.fitsDevice d fetching)
    (side : QueueSide) (n : Nat) :
    Line.fitsDevice d fetching { ln with engine := ln.engine.setReserved side n } := by
  cases side <;> exact h.of_eq rfl rfl rfl rfl rfl rfl rfl rfl

theorem State.fetchingFor_congr (h : t.fetcher.fetch = s.fetcher.fetch) (l : LineId) : t.fetchingFor l = s.fetchingFor l := by
  simp [State.fetchingFor, h]

theorem State.fetchingFor_of_none (h : s.fetcher.fetch = none) (l : LineId) : s.fetchingFor l = false := by
  simp [State.fetchingFor, h]

/-- Device, fetch, writes and loader are the same, and every line still fits. -/
theorem State.deviceSound.of_lines (h : s.deviceSound) (hdevice : t.device = s.device) (hloader : t.loader = s.loader)
    (hloaded : t.loaded = s.loaded) (hfetch : t.fetcher.fetch = s.fetcher.fetch)
    (hwrite : s.serving = false → t.writer.write = s.writer.write)
    (hlines : ∀ l, (s.line l).fitsDevice s.device (s.fetchingFor l) → (t.line l).fitsDevice s.device (s.fetchingFor l)) :
    t.deviceSound := by
  obtain ⟨hl, hfits, hld, hidle⟩ := s.deviceSound_iff.mp h
  have hserving : t.serving = s.serving := by simp [State.serving, hdevice]
  refine t.deviceSound_iff.mpr ⟨by rw [hloader, hdevice]; exact hl, fun l => ?_, by rw [hserving, hloaded]; exact hld,
    fun hs => ?_⟩
  · rw [hdevice, State.fetchingFor_congr hfetch]
    exact hlines l (hfits l)
  · rw [hserving] at hs
    rw [hfetch, hwrite hs]
    exact hidle hs

/-- Changes outside the device state, the lines, the fetch, the writes and the loader. -/
theorem State.deviceSound.of_eq (h : s.deviceSound) (hdevice : t.device = s.device) (hlines : t.lines = s.lines)
    (hloader : t.loader = s.loader) (hloaded : t.loaded = s.loaded) (hfetch : t.fetcher.fetch = s.fetcher.fetch)
    (hwrite : t.writer.write = s.writer.write) : t.deviceSound :=
  h.of_lines hdevice hloader hloaded hfetch (fun _ => hwrite) (fun l hl => by rw [State.line_congr hlines l]; exact hl)

/-- A line replaced by one that fits. -/
theorem State.deviceSound.setLine (h : s.deviceSound) {l : LineId} {ln : Line}
    (hln : (s.line l).fitsDevice s.device (s.fetchingFor l) → ln.fitsDevice s.device (s.fetchingFor l)) :
    (s.setLine l ln).deviceSound := by
  refine h.of_lines rfl rfl rfl rfl (fun _ => rfl) (fun m hm => ?_)
  rw [State.line_setLine]
  split
  · next he => subst he; exact hln hm
  · exact hm

/-- A fetch ends, and every line still fits. -/
theorem State.deviceSound.fetchEnds (h : s.deviceSound) (hdevice : t.device = s.device) (hloader : t.loader = s.loader)
    (hloaded : t.loaded = s.loaded) (hfetch : t.fetcher.fetch = none) (hwrite : t.writer.write = s.writer.write)
    (hlines : ∀ l, ∃ g, g.urgent = (s.line l).engine.urgent ∧ g.routine = (s.line l).engine.routine ∧
      g.state = (s.line l).engine.state ∧ g.cont = (s.line l).engine.cont ∧
      g.collection = (s.line l).engine.collection ∧ g.owed = (s.line l).engine.owed ∧
      g.lineUpOwed = (s.line l).engine.lineUpOwed ∧ t.line l = { s.line l with engine := g }) : t.deviceSound := by
  obtain ⟨hl, hfits, hld, hidle⟩ := s.deviceSound_iff.mp h
  have hserving : t.serving = s.serving := by simp [State.serving, hdevice]
  refine t.deviceSound_iff.mpr ⟨by rw [hloader, hdevice]; exact hl, fun l => ?_, by rw [hserving, hloaded]; exact hld,
    fun hs => ⟨hfetch, ?_⟩⟩
  · rw [hdevice, State.fetchingFor_of_none hfetch]
    obtain ⟨g, hu, hr, hst, hcont, hk, howed, hup, hline⟩ := hlines l
    rw [hline]
    exact (hfits l).stopping_ended.of_eq rfl hst hcont hu hr hk howed hup
  · rw [hwrite]
    exact (hidle (hserving ▸ hs)).2

/-! ## Moves -/

theorem State.fetchBegin_deviceSound (h : s.deviceSound) (ht : s.fetchBegin = some t) : t.deviceSound := by
  obtain ⟨-, -, hdevice, -, hwriter, -, -, hloader, hloaded⟩ := State.fetchBegin_leaves ht
  obtain ⟨-, r, heligible, rfl⟩ := State.fetchBegin_cases ht
  have hrunning : s.device = .running := by
    simp only [State.eligible, Bool.and_eq_true, beq_iff_eq] at heligible
    exact heligible.1.1.1
  obtain ⟨hl, hfits, hld, -⟩ := s.deviceSound_iff.mp h
  refine (State.deviceSound_iff _).mpr ⟨by rw [hdevice, hloader]; exact hl, fun l => ?_, fun _ => ?_, fun hs => ?_⟩
  · have hline := hfits l
    rw [hdevice]
    rw [hrunning] at hline ⊢
    obtain ⟨m, side, -, h⟩ | ⟨-, h⟩ := State.reserve_cases _ r <;> rw [h]
    · rw [State.line_setLine]
      split
      · next he =>
        subst he
        exact Line.fitsDevice.setReserved (d := .running) (fetching := false) hline _ _
      · exact hline
    · exact hline
  · rw [hloaded]; exact hld (by simp [State.serving, hrunning])
  · rw [State.serving, hdevice, hrunning] at hs
    cases hs

theorem State.engineMove_deviceSound {l : LineId} (h : s.deviceSound) (ht : s.engineMove l = some t) : t.deviceSound := by
  obtain ⟨ln, cache, hstep, rfl⟩ := State.engineMove_cases ht
  exact State.deviceSound.of_eq (s := s.setLine l ln) (h.setLine (fun hl => Line.engineStep_fitsDevice hstep hl)) rfl rfl rfl
    rfl rfl rfl

theorem State.take_deviceSound {fresh : Bool} (h : s.deviceSound) (ht : s.take fresh = some t) : t.deviceSound := by
  obtain ⟨hmay, k, c, n, u, rfl, hsource⟩ := State.take_source ht
  have hserving := s.serving_iff.mpr (s.mayTake_iff.mp hmay).1
  have hwrite : s.serving = false → ∀ w, w = s.writer.write := fun hs => by rw [hserving] at hs; cases hs
  obtain ⟨l, -, rfl⟩ | ⟨-, rfl⟩ := hsource
  · refine State.deviceSound.of_lines
      (s := s.setLine l { s.line l with engine := { (s.line l).engine with slot := none } }) ?_ rfl rfl rfl rfl
      (fun hs => hwrite hs _) (fun m hm => hm)
    exact h.setLine (fun hl => hl.of_eq rfl rfl rfl rfl rfl rfl rfl rfl)
  · exact h.of_lines rfl rfl rfl rfl (fun hs => hwrite hs _) (fun m hm => hm)

/-- STOPPING ends with every engine INACTIVE and every line OFF (R166). -/
theorem State.enterHalted_deviceSound (h : s.deviceSound) (hs : s.stopped = true) : s.enterHalted.deviceSound := by
  obtain ⟨hdevice, hlines, hfetch, -, -, -, -, hwrite⟩ := s.stopped_iff.mp hs
  obtain ⟨hl, hfits, -, -⟩ := s.deviceSound_iff.mp h
  have hline : ∀ l, s.enterHalted.line l = (s.line l).clearBarred := fun l => by
    rw [State.enterHalted_eq]; exact s.line_mapLines Line.clearBarred l
  refine (State.deviceSound_iff _).mpr ⟨?_, fun l => ?_, fun hserving => ?_, fun _ => ?_⟩
  · rw [State.enterHalted_eq]
    rw [hdevice] at hl
    simpa using hl
  · have hl := hfits l
    rw [hdevice] at hl
    rw [hline]
    have hhalted : s.enterHalted.device = .halted := by rw [State.enterHalted_eq]
    rw [hhalted]
    exact ⟨(hlines l).1, (hl.off (.inl (hlines l).1)).1⟩
  · rw [State.enterHalted_eq] at hserving
    simp [State.serving] at hserving
  · rw [State.enterHalted_eq]
    exact ⟨hfetch, hwrite⟩

theorem State.relabel_deviceSound (h : s.deviceSound) : (s.mapLines Line.relabel).deviceSound := by
  refine h.of_lines rfl rfl rfl rfl (fun _ => rfl) (fun l hl => ?_)
  rw [State.line_mapLines]
  obtain ⟨st, heq, hsame, hwaits⟩ := (s.line l).relabel_eq
  rw [heq]
  by_cases hst : (s.line l).engine.state = .idle ∨ (s.line l).engine.state = .blocked
  · have hnew := hwaits hst
    have hactive : st ≠ .inactive := by rcases hnew with h | h <;> simp [h]
    have hthawed : st ≠ .frozen := by rcases hnew with h | h <;> simp [h]
    cases hd : s.device with
    | running => rw [hd] at hl; exact ⟨hactive, hthawed, hl.cont⟩
    | stopping =>
      rw [hd] at hl
      exact {
        thawed := hthawed
        off := fun hoff => hl.off (.inr (hoff.resolve_left hactive))
        effects := hl.effects
        empty := fun hstops => hl.empty (.inr (hstops.resolve_left hactive))
        settled := fun hi => absurd hi hactive }
    | faulted => rw [hd] at hl; rcases hst with h | h <;> rw [hl.1] at h <;> cases h
    | _ => rw [hd] at hl; rcases hst with h | h <;> rw [hl.1] at h <;> cases h
  · rw [not_or] at hst
    exact hl.of_eq rfl (hsame hst.1 hst.2) rfl rfl rfl rfl rfl rfl

/-! ## HALTED and LOADING hold nothing -/

/-- Where STOPPING ends, every record taken has been answered and every buffer returned (R166). -/
theorem State.counts_of_stopped (h : s.deviceSound) (hs : s.stopped = true) : s.unanswered = 0 ∧ s.unreturned = 0 := by
  obtain ⟨hdevice, hlines, -, hcache, -, howed, hslot, hwrite⟩ := s.stopped_iff.mp hs
  obtain ⟨-, hfits, -, -⟩ := s.deviceSound_iff.mp h
  have hempty : ∀ l, (s.line l).requestsHeld = 0 ∧ (s.line l).buffersHeld = 0 := fun l => by
    have hl := hfits l
    rw [hdevice] at hl
    obtain ⟨hinactive, hpost⟩ := hlines l
    obtain ⟨hu, hr, hk, -⟩ := hl.empty (.inl hinactive)
    simp [Line.requestsHeld, Line.buffersHeld, Line.heldBuffers, Line.outbox, hu, hr, hk, hpost, hl.settled hinactive]
  constructor
  · simp [State.unanswered_eq, State.sumLines, hempty, State.serviceOut, howed, hslot, State.writing, hwrite]
  · simp [State.unreturned_eq, State.sumLines, hempty, State.serviceOut, howed, hslot, State.writing, hwrite, hcache]

/-- Records and buffers are conserved, and the device state is the same. -/
theorem State.accountedFor.of_conserves (h : s.accountedFor) (hdevice : t.device = s.device) (hcounts : s.Conserves t) :
    t.accountedFor := fun hd => by
  obtain ⟨h1, h2⟩ := hcounts
  rw [h1, h2]
  exact h (hdevice ▸ hd)

/-- Another device state than HALTED and LOADING. -/
theorem State.accountedFor.of_ne (h1 : t.device ≠ .halted) (h2 : t.device ≠ .loading) : t.accountedFor := fun hd => by
  obtain hd | hd := hd
  · exact absurd hd h1
  · exact absurd hd h2

/-- What follows keeps both: where the device comes to HALTED, nothing is held. -/
theorem State.settleFrom_device (before : State) (h : s.deviceSound ∧ s.accountedFor) :
    (State.settleFrom before s).deviceSound ∧ (State.settleFrom before s).accountedFor := by
  refine State.settleFrom_keeps (P := fun u => u.deviceSound ∧ u.accountedFor) before (fun u t hu ht => ?_)
    (fun u t l hu ht => ?_) (fun u t hu ht => ?_) (fun u t fresh hu ht => ?_) (fun u hu hs => ?_) (fun u hu => ?_) s h
  · exact ⟨State.fetchBegin_deviceSound hu.1 ht,
      hu.2.of_conserves (State.fetchBegin_leaves ht).2.2.1 (State.fetchBegin_conserves ht)⟩
  · refine ⟨State.engineMove_deviceSound hu.1 ht, hu.2.of_conserves ?_ (State.engineMove_conserves ht)⟩
    obtain ⟨ln, cache, -, rfl⟩ := State.engineMove_cases ht
    rfl
  · have hcounts := State.servicePlace_conserves ht
    obtain ⟨c, rest, -, -, rfl⟩ := State.servicePlace_cases ht
    exact ⟨hu.1.of_eq rfl rfl rfl rfl rfl rfl, hu.2.of_conserves rfl hcounts⟩
  · refine ⟨State.take_deviceSound hu.1 ht, hu.2.of_conserves ?_ (State.take_conserves ht)⟩
    obtain ⟨-, k, c, n, v, rfl, ⟨l, -, rfl⟩ | ⟨-, rfl⟩⟩ := State.take_source ht <;> rfl
  · obtain ⟨h1, h2⟩ := State.counts_of_stopped hu.1 hs
    obtain ⟨h3, h4⟩ := u.enterHalted_conserves
    exact ⟨State.enterHalted_deviceSound hu.1 hs, fun _ => ⟨h3.trans h1, h4.trans h2⟩⟩
  · exact ⟨State.relabel_deviceSound hu.1, hu.2.of_conserves rfl u.relabel_conserves⟩

/-! ## Effects -/

/-- A device that is neither RUNNING nor STOPPING nor LOADING, with every line at rest. -/
theorem State.deviceSound.of_halted (hdevice : t.device = .halted) (hloader : t.loader = none)
    (hfetch : t.fetcher.fetch = none) (hwrite : t.writer.write = none)
    (hlines : ∀ l, (t.line l).engine.state = .inactive ∧ (t.line l).driver.state = .off) : t.deviceSound := by
  refine t.deviceSound_iff.mpr ⟨by simp [hloader, hdevice], fun l => ?_, fun hs => ?_, fun _ => ⟨hfetch, hwrite⟩⟩
  · rw [hdevice]; exact hlines l
  · rw [State.serving, hdevice] at hs
    cases hs

/-- Nothing is queued, cached or on its way. -/
theorem State.accountedFor.of_empty (hlines : ∀ l, (t.line l).requestsHeld = 0 ∧ (t.line l).buffersHeld = 0)
    (hservice : t.serviceOut = []) (hcache : t.cache = []) (hwrite : t.writer.write = none) : t.accountedFor := fun _ => by
  constructor
  · simp [State.unanswered_eq, State.sumLines, hlines, hservice, State.writing, hwrite]
  · simp [State.unreturned_eq, State.sumLines, hlines, hservice, hcache, State.writing, hwrite]

/-- The record taken joins a queue of a line for which a fetch is in progress (R164). -/
theorem State.recordTaken_deviceSound {r : RingId} (h : s.deviceSound)
    (hf : s.fetcher.fetch = some { ring := r, phase := .read }) (data : List Byte) :
    (s.recordTaken r data).deviceSound := by
  obtain ⟨hl, hfits, hld, hidle⟩ := s.deviceSound_iff.mp h
  have hserving : s.serving = true := by
    by_contra hs
    have hnone := (hidle (Bool.eq_false_iff.mpr hs)).1
    rw [hf] at hnone
    cases hnone
  have hfetching : ∀ l, (s.indexMoved r).fetchingFor l = s.fetchingFor l := fun l => by
    simp [State.fetchingFor, State.indexMoved, hf]
  have hmoved : (s.indexMoved r).deviceSound :=
    (State.deviceSound_iff _).mpr ⟨hl, fun l => by rw [hfetching]; exact hfits l, hld,
      fun hs => absurd (hserving.symm.trans hs) (by decide)⟩
  cases hr : ringTarget r with
  | some target =>
    obtain ⟨l, side⟩ := target
    rw [State.recordTaken_of_request hr]
    refine hmoved.setLine (fun hline => ?_)
    have hfor : (s.indexMoved r).fetchingFor l = true := by simp [State.fetchingFor, State.indexMoved, hr]
    have hline' : (s.line l).fitsDevice s.device ((s.indexMoved r).fetchingFor l) := hline
    show Line.fitsDevice s.device _ _
    rw [hfor] at hline' ⊢
    rw [State.serving_iff] at hserving
    obtain hd | hd := hserving <;> rw [hd] at hline' ⊢
    · cases side <;> exact ⟨hline'.active, hline'.thawed, hline'.cont⟩
    · have hbusy : ¬ ((s.line l).engine.state = .inactive ∨ (s.line l).engine.cont.stops = true) :=
        fun hstops => absurd (hline'.empty hstops).2.2.2 (by decide)
      have hcont : (s.line l).engine.cont.stops = false := Bool.eq_false_iff.mpr (fun hs => hbusy (.inr hs))
      refine Line.InRunning.inStopping ?_ _
      cases side <;> exact ⟨fun hi => hbusy (.inl hi), hline'.thawed, hcont⟩
  | none =>
    rw [State.recordTaken_of_supply hr]
    obtain ⟨-, -, h⟩ | ⟨-, -, h⟩ | ⟨-, h⟩ := (s.indexMoved r).supplyTaken_cases (SupplyRecord.ofBytes (exactly 16 data)) <;>
      rw [h] <;> exact hmoved.of_eq rfl rfl rfl rfl rfl rfl

theorem State.Effect.deviceSound (heffect : s.Effect c u) (hsound : s.Sound) : u.deviceSound := by
  have h := hsound.device
  obtain ⟨hl, hfits, hld, hidle⟩ := s.deviceSound_iff.mp h
  have hrest : ∀ d, s.device = d → (d = .halted ∨ d = .loading) → ∀ l,
      (s.line l).engine.state = .inactive ∧ (s.line l).driver.state = .off := fun d hd hstill l => by
    have hline := hfits l
    rw [hd] at hline
    obtain rfl | rfl := hstill <;> exact hline
  cases heffect with
  | window u hn hu => exact h.of_eq (by rw [hu]) (by rw [hu]) (by rw [hu]) (by rw [hu]) (by rw [hu]) (by rw [hu])
  | powerOn hc =>
    refine .of_halted rfl rfl rfl rfl (fun l => ?_)
    have hline : s.powerOnPart.line l = Line.initial := by
      simp [State.powerOnPart, State.line, State.reset, Vector.get_eq_getElem]
    rw [hline]
    exact ⟨rfl, rfl⟩
  | reset hn hacts =>
    refine .of_halted rfl rfl rfl rfl (fun l => ?_)
    have hline : s.resetPart.line l = (s.line l).resetLine := s.line_mapLines Line.resetLine l
    rw [hline]
    exact ⟨rfl, rfl⟩
  | loadBegins hn hd =>
    rw [State.startCommand_of_halted hd]
    exact (State.deviceSound_iff _).mpr ⟨by simp, fun l => hrest _ hd (.inl rfl) l, nofun,
      fun _ => hidle (by rw [State.serving, hd]; rfl)⟩
  | loadAbandoned hn hd =>
    obtain ⟨hfetch, hwrite⟩ := hidle (by rw [State.serving, hd]; rfl)
    exact .of_halted rfl rfl hfetch hwrite (fun l => hrest _ hd (.inr rfl) l)
  | loadFailed code i hn hd =>
    obtain ⟨hfetch, hwrite⟩ := hidle (by rw [State.serving, hd]; rfl)
    exact .of_halted rfl rfl hfetch hwrite (fun l => hrest _ hd (.inr rfl) l)
  | loadGoesOn ld hn hd =>
    exact (State.deviceSound_iff _).mpr ⟨by simp [hd], fun l => hfits l, hld, hidle⟩
  | started cfg hn hd hread hgood =>
    refine (State.deviceSound_iff _).mpr ⟨by simp [State.enterRunning, State.raise], fun l => ?_, fun _ => rfl, nofun⟩
    have hline : (s.enterRunning cfg).line l = (s.line l).start (cfg.lines.get l) := by
      simp [State.enterRunning, State.line, State.raise, Vector.get_eq_getElem]
    rw [hline]
    exact Line.InRunning.mk nofun nofun rfl
  | stops hn hd =>
    have hserving : s.serving = true := by rw [State.serving, hd]; rfl
    have hnone : s.loader.isSome ↔ DeviceState.stopping = .loading := by simpa [hd] using hl
    refine (State.deviceSound_iff _).mpr ⟨hnone, fun l => ?_, fun _ => hld hserving, nofun⟩
    have hline := hfits l
    rw [hd] at hline
    exact Line.InRunning.inStopping hline _
  | fetched r tail u hn hd hu =>
    exact State.fetchBegin_deviceSound (s := s.setRing r { s.ring r with tail := tail }) (h.of_eq rfl rfl rfl rfl rfl rfl) hu
  | line l ln hn hbusy hln =>
    refine h.setLine (fun hline => ?_)
    obtain hd | hd := (hsound.serving_of_busy hbusy).1 <;> rw [hd] at hline ⊢
    · exact hln.inRunning hline
    · exact hln.inStopping hline
  | taken r data hc hf => exact State.recordTaken_deviceSound h hf data
  | readFailed r hn hf =>
    obtain ⟨l, side, -, hr⟩ | ⟨-, hr⟩ := s.release_cases r
    · rw [hr]
      refine h.fetchEnds rfl rfl rfl rfl rfl (fun m => ?_)
      show ∃ g : Engine, _ ∧ _ ∧ _ ∧ _ ∧ _ ∧ _ ∧ _ ∧ (s.setLine l _).line m = _
      rw [State.line_setLine]
      split
      · next he =>
        subst he
        exact ⟨_, by rw [Engine.setReserved_eq], by rw [Engine.setReserved_eq], by rw [Engine.setReserved_eq],
          by rw [Engine.setReserved_eq], by rw [Engine.setReserved_eq], by rw [Engine.setReserved_eq],
          by rw [Engine.setReserved_eq], rfl⟩
      · exact ⟨_, rfl, rfl, rfl, rfl, rfl, rfl, rfl, rfl⟩
    · rw [hr]
      exact h.fetchEnds rfl rfl rfl rfl rfl (fun m => ⟨_, rfl, rfl, rfl, rfl, rfl, rfl, rfl, rfl⟩)
  | progressed r hn hf =>
    exact h.fetchEnds rfl rfl rfl rfl rfl (fun m => ⟨_, rfl, rfl, rfl, rfl, rfl, rfl, rfl, rfl⟩)
  | progressFailed r hn hf =>
    exact h.fetchEnds rfl rfl rfl rfl rfl (fun m => ⟨_, rfl, rfl, rfl, rfl, rfl, rfl, rfl, rfl⟩)
  | written hc hserving hwrite =>
    have hcounted : s.countWritten.deviceSound :=
      h.of_lines rfl rfl rfl rfl (fun hs => by rw [hserving] at hs; cases hs) (fun _ hline => hline)
    unfold State.announceDue
    split
    · exact hcounted.of_eq rfl rfl rfl rfl rfl rfl
    · exact hcounted
  | faulted hc hserving hwrite =>
    refine (State.deviceSound_iff _).mpr ⟨?_, fun l => ?_, nofun, fun _ => ⟨rfl, rfl⟩⟩
    · rw [State.serving_iff] at hserving
      have hnone : ¬ s.loader.isSome = true := fun hsome => by
        rcases hserving with hd | hd <;> rw [hl.mp hsome] at hd <;> cases hd
      have hloader : s.enterFaulted.loader = s.loader := rfl
      rw [hloader]
      exact ⟨fun h => absurd h hnone, nofun⟩
    · have hline : s.enterFaulted.line l = (s.line l).freeze := s.line_mapLines Line.freeze l
      rw [hline]
      exact ⟨rfl, rfl⟩
  | _ => exact h.of_eq rfl rfl rfl rfl rfl rfl

theorem State.Effect.accountedFor (heffect : s.Effect c u) (hsound : s.Sound) : u.accountedFor := by
  have h := hsound.accounted
  obtain ⟨-, -, -, hidle⟩ := s.deviceSound_iff.mp hsound.device
  have hfetched : ∀ f, s.fetcher.fetch = some f → s.serving = true := fun f hf => by
    by_contra hs
    have hnone := (hidle (Bool.eq_false_iff.mpr hs)).1
    rw [hf] at hnone
    cases hnone
  have hserves : ∀ {v : State}, s.serving = true → v.device = s.device → v.accountedFor := fun hs hv => by
    rw [State.serving_iff, ← hv] at hs
    obtain hd | hd := hs <;> exact .of_ne (by simp [hd]) (by simp [hd])
  cases heffect with
  | window u hn hu => exact h.of_conserves (by rw [hu]) (.of_eq (by rw [hu]) (by rw [hu]; rfl) (by rw [hu]; rfl) (by rw [hu]))
  | powerOn hc =>
    refine .of_empty (fun l => ?_) rfl rfl rfl
    have hline : s.powerOnPart.line l = Line.initial := by
      simp [State.powerOnPart, State.line, State.reset, Vector.get_eq_getElem]
    rw [hline]
    exact ⟨rfl, rfl⟩
  | reset hn hacts =>
    refine .of_empty (fun l => ?_) rfl rfl rfl
    have hline : s.resetPart.line l = (s.line l).resetLine := s.line_mapLines Line.resetLine l
    rw [hline]
    exact ⟨rfl, rfl⟩
  | loadBegins hn hd =>
    have hcounts : s.Conserves s.startCommand := by
      rw [State.startCommand_of_halted hd]
      exact .of_eq rfl rfl rfl rfl
    intro _
    rw [hcounts.1, hcounts.2]
    exact h (.inl hd)
  | loadAbandoned hn hd =>
    intro _
    exact h (.inr hd)
  | loadFailed code i hn hd =>
    intro _
    exact h (.inr hd)
  | started cfg hn hd hread hgood => exact .of_ne nofun nofun
  | stops hn hd => exact .of_ne nofun nofun
  | fetched r tail u hn hd hu =>
    have hdevice : u.device = .running := (State.fetchBegin_leaves hu).2.2.1.trans hd
    exact .of_ne (by simp [hdevice]) (by simp [hdevice])
  | line l ln hn hbusy hln => exact hserves (s.serving_iff.mpr (hsound.serving_of_busy hbusy).1) rfl
  | taken r data hc hf =>
    refine hserves (hfetched _ hf) ?_
    cases hr : ringTarget r with
    | some target =>
      obtain ⟨l, side⟩ := target
      rw [State.recordTaken_of_request hr]
      rfl
    | none =>
      rw [State.recordTaken_of_supply hr]
      obtain ⟨-, -, h⟩ | ⟨-, -, h⟩ | ⟨-, h⟩ := (s.indexMoved r).supplyTaken_cases (SupplyRecord.ofBytes (exactly 16 data)) <;>
        rw [h] <;> rfl
  | readFailed r hn hf =>
    refine hserves (hfetched _ hf) ?_
    obtain ⟨l, side, -, h⟩ | ⟨-, h⟩ := s.release_cases r <;> rw [h] <;> rfl
  | progressFailed r hn hf => exact hserves (hfetched _ hf) rfl
  | written hc hserving hwrite =>
    refine hserves hserving ?_
    unfold State.announceDue
    split <;> rfl
  | faulted hc hserving hwrite => exact .of_ne nofun nofun
  | _ => exact h.of_conserves rfl (.of_eq rfl rfl rfl rfl)

theorem State.Sound.tick_device (h : s.Sound) : s.tick.deviceSound ∧ s.tick.accountedFor := by
  cases hserving : s.serving with
  | false =>
    rw [State.tick_of_not_serving hserving]
    exact ⟨h.device, h.accounted⟩
  | true =>
    have hlines : ∀ l, (s.mapLines Line.tick).line l = (s.line l).tick := s.line_mapLines Line.tick
    rw [State.tick_of_serving hserving]
    constructor
    · refine h.device.of_lines rfl rfl rfl rfl (fun _ => rfl) (fun l hl => ?_)
      show Line.fitsDevice _ _ ((s.mapLines Line.tick).line l)
      rw [hlines]
      exact hl.of_eq rfl rfl rfl rfl rfl rfl rfl rfl
    · refine h.accounted.of_conserves rfl (.of_lines (fun l => ?_) rfl rfl rfl)
      show (s.line l).Conserves ((s.mapLines Line.tick).line l)
      rw [hlines]
      exact .of_eq rfl rfl rfl rfl rfl

end

/-- Every step keeps what the device state says of the blocks, and HALTED and LOADING free of what was taken. -/
theorem step_device {s t : State} (hsound : s.Sound) (hstep : step s = .next t) : t.deviceSound ∧ t.accountedFor :=
  step_establishes (P := fun u => u.deviceSound ∧ u.accountedFor) (fun _ hs => hs.tick_device)
    (fun _ _ _ hs hu => ⟨hu.deviceSound hs, hu.accountedFor hs⟩) (fun before _ hu => State.settleFrom_device before hu)
    hsound hstep

/-- Settles O9. -/
theorem stepKeepsDeviceState : Obligations.StepKeepsDeviceState := by
  intro s t hsound hstep
  exact (step_device hsound hstep).1

/-- Settles O10. -/
theorem stepLeavesNothingTakenInHalted : Obligations.StepLeavesNothingTakenInHalted := by
  intro s t hsound hstep
  exact (step_device hsound hstep).2

end Sys2Proof.Machine
end

section
/-! PROOFS. The state after reset is sound; the load of the configuration block, and the entry to RUNNING (R159, R160, R162,
R168). -/

namespace Sys2Proof.Machine

@[simp] theorem State.reset_line (l : LineId) : State.reset.line l = Line.initial := by
  simp [State.line, State.reset, Vector.get_eq_getElem]

/-- Settles O5: every block is at its power-on value. -/
theorem resetIsSound : Obligations.ResetIsSound where
  wire l := Line.wireSafe_of_idle (by rw [State.reset_line]; rfl) _
  queues := .of_empty (fun l side => by rw [State.reset_line]; cases side <;> rfl) rfl rfl rfl rfl
  ring := .of_initial rfl nofun
  device := .of_halted rfl rfl rfl rfl (fun l => by rw [State.reset_line]; exact ⟨rfl, rfl⟩)
  accounted := .of_empty (fun l => by rw [State.reset_line]; exact ⟨rfl, rfl⟩) rfl rfl rfl
  entries l n := by
    have hentry : Line.initial.entry n = Entry.initial.clear := by
      simp [Line.entry, Line.initial, Vector.get_eq_getElem, Entry.clear, Entry.initial]
    rw [State.reset_line, hentry]
    exact Entry.clear_wf _ _
  drivers l := by rw [State.reset_line]; exact ⟨Nat.zero_le _, Nat.zero_le _⟩
  active l t ht := by rw [State.reset_line] at ht; simp [Line.initial, Engine.initial] at ht
  collections l := by rw [State.reset_line]; exact ⟨nofun, nofun, nofun, fun _ => rfl⟩

/-! ## STOP -/

/-- Outside RUNNING no fetch begins, so that what follows leaves the fetcher (R143). -/
theorem State.settleFrom_fetcher (before : State) {s : State} (h : s.device ≠ .running) :
    (State.settleFrom before s).fetcher = s.fetcher := by
  refine (State.settleFrom_keeps (P := fun u => u.device ≠ .running ∧ u.fetcher = s.fetcher) before
    (fun u t hu ht => ?_) (fun u t l hu ht => ?_) (fun u t hu ht => ?_) (fun u t fresh hu ht => ?_)
    (fun u hu _ => ?_) (fun u hu => hu) s ⟨h, rfl⟩).2
  · obtain ⟨-, r, heligible, -⟩ := State.fetchBegin_cases ht
    simp only [State.eligible, Bool.and_eq_true, beq_iff_eq] at heligible
    exact absurd heligible.1.1.1 hu.1
  · obtain ⟨ln, cache, -, rfl⟩ := State.engineMove_cases ht; exact hu
  · obtain ⟨c, rest, -, -, rfl⟩ := State.servicePlace_cases ht; exact hu
  · obtain ⟨-, k, c, n, v, rfl, ⟨l, -, rfl⟩ | ⟨-, rfl⟩⟩ := State.take_source ht <;> exact hu
  · rw [State.enterHalted_eq]; exact ⟨nofun, hu.2⟩

/-- Settles O19: the cache's records join the service owed list, from which what follows only passes them on. -/
theorem stopReturnsTheCache : Obligations.StopReturnsTheCache := by
  intro s back
  constructor
  · intro hd
    have hstop : exec .stop s = .next (s.settleFrom ({ s with device := .stopping }).returnCache) :=
      congrArg Host.Outcome.next (State.stopCommand_of_running hd)
    have hfollows := State.settleFrom_follows s ({ s with device := .stopping }).returnCache
    obtain ⟨-, hloaded, -, -, -, -, hstamp, herror, -, hrings, -⟩ := hfollows.leaves
    refine ⟨hstop, _, hstop, hfollows.device.imp_right And.right, ?_, fun b hb => ?_, hrings,
      State.settleFrom_fetcher s nofun, hloaded, hstamp, herror, fun l n => hfollows.toggles l n⟩
    · exact List.eq_nil_iff_forall_not_mem.mpr (fun b hb => List.not_mem_nil (hfollows.cache b hb))
    · refine State.settleFrom_servicePosts s ?_
      exact List.mem_append_right _ (List.mem_append_right _ (List.mem_map_of_mem hb))
  · intro hd
    exact congrArg Host.Outcome.next (State.stopCommand_of_loading hd)

/-! ## The load -/

/-- A read before the last joins the copy (R159). -/
theorem State.loadRead_of_more {s : State} {ld : Loader} {data : List Byte} (hd : s.device = .loading)
    (hl : s.loader = some ld) (hmore : ld.copy.length + data.length < 240) (failed : Bool) :
    s.loadRead data failed = { s with loader := some { ld with copy := ld.copy ++ data, failed := ld.failed || failed } } := by
  have htake : (ld.copy ++ data).take Config.blockBytes = ld.copy ++ data :=
    List.take_of_length_le (by rw [List.length_append]; exact Nat.le_of_lt hmore)
  have hlength : (ld.copy ++ data).length < Config.blockBytes := by rw [List.length_append]; exact hmore
  simp only [State.loadRead, hd, hl, Loader.add, htake, hlength, if_true]

/-- The last read has the load judged (R159, R160). -/
theorem State.loadRead_of_last {s : State} {ld : Loader} {data : List Byte} (hd : s.device = .loading)
    (hl : s.loader = some ld) (hlast : 240 ≤ ld.copy.length + data.length) (failed : Bool) :
    s.loadRead data failed = s.judgeLoad (ld.add data failed) := by
  have hlength : ¬ (ld.add data failed).copy.length < Config.blockBytes := by
    simp only [Loader.add, List.length_take, List.length_append, Config.blockBytes]
    omega
  simp only [State.loadRead, hd, hl, hlength, if_true, if_false]

theorem fitsTop_iff (addr : HostAddr) (size : Nat) : fitsTop addr size = true ↔ addr.toNat + size ≤ 2 ^ 64 :=
  decide_eq_true_iff

/-- A load with a failed read, or past the top of the address space, fails (R160; log 12). -/
theorem State.judgeLoad_of_bad {s : State} {ld : Loader} (h : ld.failed = true ∨ 2 ^ 64 < ld.base.toNat + 240) :
    s.judgeLoad ld = s.loadFailed .loadBusError 0 := by
  refine if_pos ?_
  rw [Bool.or_eq_true, Bool.not_eq_true', ← Bool.not_eq_true, fitsTop_iff]
  exact h.imp_right Nat.not_le_of_lt

/-- Any other is judged by its fields (R160). -/
theorem State.judgeLoad_of_badField {s : State} {ld : Loader} {i : Nat} (hgood : ld.failed = false)
    (htop : ld.base.toNat + 240 ≤ 2 ^ 64) (hi : (LoadedConfig.ofBytes ld.copy).firstBadField = some i) :
    s.judgeLoad ld = s.loadFailed .configRange (BitVec.ofNat 8 i) := by
  have hfits : fitsTop ld.base Config.blockBytes = true := (fitsTop_iff _ _).mpr htop
  simp [State.judgeLoad, hgood, hfits, hi]

theorem State.judgeLoad_of_accepted {s : State} {ld : Loader} (hgood : ld.failed = false)
    (htop : ld.base.toNat + 240 ≤ 2 ^ 64) (hnone : (LoadedConfig.ofBytes ld.copy).firstBadField = none) :
    s.judgeLoad ld = s.enterRunning (LoadedConfig.ofBytes ld.copy) := by
  have hfits : fitsTop ld.base Config.blockBytes = true := (fitsTop_iff _ _).mpr htop
  simp [State.judgeLoad, hgood, hfits, hnone]

/-- Settles O21. -/
theorem loadReadsTheBlock : Obligations.LoadReadsTheBlock := by
  intro s ld data n hd hl halted
  refine ⟨by simp [State.configRead, hl, Loader.readAddr], fun hmore => ⟨?_, ?_⟩, fun hmore => ?_, fun hlast => ?_,
    fun hlast hbad => ?_, fun hlast hgood htop i hi => ?_⟩
  · rw [exec_configReadDone]
    simp only [State.loadRead_of_more hd hl hmore, Bool.or_false]
  · simp [State.configRead, Loader.readAddr]
  · rw [exec_configReadDone]
    simp only [State.loadRead_of_more hd hl (data := List.replicate n 0) (by simpa using hmore), Bool.or_true]
  · rw [exec_configReadDone]
    simp only [State.loadRead_of_last hd hl (data := List.replicate n 0) (by simpa using hlast)]
    rw [State.judgeLoad_of_bad (.inl (Bool.or_true _))]
    rfl
  · rw [exec_configReadDone]
    simp only [State.loadRead_of_last hd hl hlast]
    rw [State.judgeLoad_of_bad (ld := ld.add data false) (hbad.imp_left (fun h => by rw [Loader.add, h]; rfl))]
    rfl
  · rw [exec_configReadDone]
    simp only [State.loadRead_of_last hd hl hlast]
    have hcopy : (ld.add data false).copy = (ld.copy ++ data).take 240 := rfl
    rw [State.judgeLoad_of_badField (ld := ld.add data false) (by rw [Loader.add, hgood]; rfl) htop (by rw [hcopy]; exact hi)]
    rfl

/-- Settles O22. -/
theorem acceptedBlockStartsThePart : Obligations.AcceptedBlockStartsThePart := by
  intro s ld data hd hl hgood htop hlast cfg hcfg
  have hnext : exec (.configReadDone (.ok data)) s = .next (s.enterRunning cfg) := by
    rw [exec_configReadDone]
    simp only [State.loadRead_of_last hd hl hlast]
    have hcopy : (ld.add data false).copy = (ld.copy ++ data).take 240 := rfl
    rw [State.judgeLoad_of_accepted (ld := ld.add data false) (by rw [Loader.add, hgood]; rfl) htop
      (by rw [hcopy]; exact hcfg), hcopy]
  have hline : ∀ l, (s.enterRunning cfg).line l = (s.line l).start (cfg.lines.get l) := fun l => by
    simp [State.enterRunning, State.line, State.raise, Vector.get_eq_getElem]
  refine ⟨_, hnext, rfl, fun r => ?_, fun l => ?_⟩
  · simp [State.enterRunning, State.ring, State.raise, Vector.get_eq_getElem, Ring.initial]
  · rw [hline]
    refine ⟨?_, rfl, rfl, rfl, fun n => by rw [Line.entry_start]; rfl⟩
    unfold Line.start
    dsimp only
    split <;> rfl

end Sys2Proof.Machine
end

section
/-! PROOFS. An overcurrent trip: the whole line after it, and the way of its LINE_TRIPPED to the ring (R13, R26 to R29). -/

namespace Sys2Proof.Machine

/-- A trip keeps what the engine is working on until the exchange on the wire ends (R26). -/
theorem Line.tripped_work (ln : Line) :
    ln.tripped.engine.purpose = ln.engine.purpose ∧ ln.tripped.xcvr = ln.xcvr ∧
      ln.tripped.engine.cutOff = ln.engine.cutOff ∧ ln.tripped.driver.state = .tripped ∧
      ln.tripped.driver.restartsLeft = ln.driver.restartsLeft ∧ ln.tripped.engine.tripPending = true ∧
      ln.tripped.engine.slot = ln.engine.slot := by
  unfold Line.tripped
  dsimp only
  split <;> exact ⟨rfl, rfl, rfl, rfl, rfl, rfl, rfl⟩

/-- The exchange that a trip cuts off on a sound line: its purpose and its frame stand, so that the engine only notes it
(R13, R29). -/
theorem State.Sound.trip_cutOff {s : State} (h : s.Sound) {l : LineId} (hbusy : (s.line l).xcvr.state ≠ .idle) :
    ∃ p, (s.line l).engine.purpose = some p ∧ (s.line l).trip (s.ctx l) = (s.line l).tripped.exchangeTripped p := by
  obtain ⟨-, -, -, hpurpose, -, f, hf, -⟩ := h.wire l hbusy
  obtain ⟨p, hp⟩ := Option.isSome_iff_exists.mp hpurpose
  obtain ⟨hwork, hxcvr, -⟩ := (s.line l).tripped_work
  refine ⟨p, hp, ?_⟩
  rw [Line.trip_eq, if_neg hbusy]
  exact Line.exchangeEnd_of_tripped (hwork.trans hp) (hxcvr ▸ hf) rfl

/-- Settles O31. -/
theorem tripRemovesTheSupply : Obligations.TripRemovesTheSupply := by
  intro s l hsound hserving hdriver ln tripped left after
  have hleft : left = ln.tripped := rfl
  have hafter : after = ln.trip (s.ctx l) := by
    by_cases hidle : ln.xcvr.state = .idle
    · rw [Line.trip_eq, if_pos hidle]
      exact if_pos hidle
    · obtain ⟨p, hp, htrip⟩ := hsound.trip_cutOff hidle
      refine (if_neg hidle).trans ?_
      rw [htrip, Line.exchangeTripped_eq, hleft, (ln.tripped_work).2.2.1]
      have hp' : ln.engine.purpose = some p := hp
      rw [hp']
      rfl
  have hexec : exec (.overcurrentTrip l) s = .next (s.wake l after) := by
    rw [exec_overcurrentTrip, if_pos ⟨s.serving_iff.mpr hserving, hdriver⟩, hafter]
  refine ⟨hexec, fun hbusy => ⟨?_, rfl, rfl, rfl, ?_⟩⟩
  · rw [hafter, Line.trip_eq, if_neg hbusy]
    rfl
  · show (ln.xcvr.cutOffResult).attempts = _
    unfold Transceiver.cutOffResult
    cases hst : ln.xcvr.state <;> simp [hst] at hbusy ⊢

/-! ## The way of LINE_TRIPPED -/

/-- The line is not UP and nothing is on its wire. -/
def Line.Down (ln : Line) : Prop := ln.driver.state ≠ .up ∧ ln.xcvr.state = .idle

/-- A trip waits for the engine, which is within no unit, with `n` restarts left and no LINE_FAILED owed (R28). -/
structure Line.TripWaits (n : Nat) (ln : Line) : Prop where
  pending : ln.engine.tripPending = true
  driver : ln.driver.state = .tripped
  restarts : ln.driver.restartsLeft = n
  cont : ln.engine.cont = .boundary
  effects : ∀ o ∈ ln.engine.owed, o.effect ≠ .driverFailed

section
variable {x : LineCtx} {a b : Line} {n : Nat}

theorem Line.Moved.down (h : Line.Moved x a b) (ha : a.Down) : b.Down := by
  obtain ⟨hup, hidle⟩ := ha
  cases h with
  | worked d b hst hunit => exact hunit.notUp hup hidle
  | granted b cache cache' hst hgrant =>
    have hdriver : b.driver.state ≠ .up := by rw [hgrant.leaves.1]; exact hup
    refine ⟨hdriver, ?_⟩
    by_contra hbusy
    exact hdriver (hgrant.wireSafe hidle x.cfg hbusy).1
  | relabelled =>
    obtain ⟨st, h, -⟩ := a.relabel_eq
    rw [h]
    exact ⟨hup, hidle⟩
  | _ => exact ⟨hup, hidle⟩

/-- Driver, waiting trip, rest of the unit and owed records are the same. -/
def Line.SameTrip (a b : Line) : Prop :=
  b.driver = a.driver ∧ b.engine.tripPending = a.engine.tripPending ∧ b.engine.cont = a.engine.cont ∧
    b.engine.owed = a.engine.owed

theorem Line.TripWaits.of_same (ha : a.TripWaits n) (h : a.SameTrip b) : b.TripWaits n := by
  obtain ⟨hdriver, hpending, hcont, howed⟩ := h
  exact ⟨hpending ▸ ha.pending, hdriver ▸ ha.driver, hdriver ▸ ha.restarts, hcont ▸ ha.cont, howed ▸ ha.effects⟩

/-- LINE_TRIPPED is the first record that the trip processing adds (R29). -/
theorem Line.processTrip_posts (ln : Line) (x : LineCtx) :
    lineEvent x.line .lineTripped ln.driver.restartsLeft ∈ (ln.processTrip x.line).outbox := by
  obtain ⟨more, hmore⟩ : (ln.produceWith (lineEvent x.line .lineTripped ln.driver.restartsLeft) .clearEntries).Grows
      (ln.processTrip x.line) := by
    have hquiet := (((Line.completeCutOff_quiet x .running (ln.produceWith (lineEvent x.line .lineTripped
      ln.driver.restartsLeft) .clearEntries)).trans (Line.completeActive_quiet x .running _ .lineDown 0)).step
        (.returnCollection _ .lineDown)).step (.setCont _ .tripBudget rfl)
    exact hquiet.unit.grows
  rw [hmore]
  exact List.mem_append_left _ (List.mem_append_right _ (List.mem_map_of_mem (List.mem_append_right _ (List.mem_singleton_self _))))

/-- An engine with a waiting trip and nothing owed posts LINE_UP, if that is owed, and then processes the trip, into the
empty slot (R25, R28). -/
theorem Line.proceed_of_trip {env : EngineEnv} {cache : List SupplyRecord} (hcont : a.engine.cont = .boundary)
    (htrip : a.engine.tripPending = true) :
    a.proceed x env cache = if a.engine.slot.isSome then none
      else some (if a.engine.lineUpOwed then a.postLineUp x.line else a.processTrip x.line, cache) := by
  unfold Line.proceed
  rw [hcont, htrip]
  cases a.engine.lineUpOwed <;> simp

/-- What an engine with a waiting trip does: it places what it owes and a LINE_UP, and then produces LINE_TRIPPED (R25, R28,
R29). -/
theorem Line.TripWaits.engineStep {env : EngineEnv} {cache cache' : List SupplyRecord} (ha : a.TripWaits n)
    (h : a.engineStep x env cache = some (b, cache')) :
    b.TripWaits n ∨ lineEvent x.line .lineTripped n ∈ b.outbox := by
  cases howed : a.engine.owed with
  | cons o rest =>
    obtain ⟨-, rfl⟩ := Line.engineStep_of_owed howed h
    have ho := ha.effects o (by simp [howed])
    refine .inl ⟨?_, ?_, ?_, by simp [ha.cont], fun p hp => ?_⟩
    · obtain ⟨-, h⟩ | ⟨-, h⟩ | ⟨he, -⟩ := a.place_cases o rest
      · rw [h]; exact ha.pending
      · rw [h]; exact ha.pending
      · exact absurd he ho
    · rw [Line.place_driver, if_neg ho]; exact ha.driver
    · simp [ha.restarts]
    · exact ha.effects p (by simp only [Line.place_leaves] at hp; simp [howed, hp])
  | nil =>
    unfold Line.engineStep at h
    rw [howed] at h
    dsimp only at h
    rw [Line.proceed_of_trip ha.cont ha.pending] at h
    split at h
    · split at h
      · cases h
      · cases h
        split
        · exact .inl ⟨ha.pending, ha.driver, ha.restarts, ha.cont, ha.effects⟩
        · exact .inr (ha.restarts ▸ a.processTrip_posts x)
    · cases h

end

section
variable {s t : State} {n : Nat} {l : LineId}

/-- A record on its way stays on its way through what keeps the order. -/
theorem State.Ordered.posts {c : Completion} (h : s.Ordered t) (hposts : s.posts l c) : t.posts l c := by
  obtain hout | hwriting := hposts
  · exact (h.outbox l).mem hout
  · refine .inr ?_
    unfold State.writing at hwriting ⊢
    rw [h.write (State.writing_isSome hwriting)]
    exact hwriting

/-- The trip of line `l` waits, or its LINE_TRIPPED is on its way. -/
def State.TripReported (l : LineId) (n : Nat) (s : State) : Prop :=
  (s.line l).Down ∧ ((s.line l).TripWaits n ∨ s.posts l (lineEvent l .lineTripped n))

/-- A move that leaves the line's trip as it is. -/
theorem State.TripReported.of_same (hs : s.TripReported l n) (hordered : s.Ordered t)
    (hmoved : Line.Moved (s.ctx l) (s.line l) (t.line l)) (hsame : (s.line l).SameTrip (t.line l)) : t.TripReported l n :=
  ⟨hmoved.down hs.1, hs.2.imp (fun h => h.of_same hsame) hordered.posts⟩

theorem Line.SameTrip.refl (a : Line) : a.SameTrip a := ⟨rfl, rfl, rfl, rfl⟩

theorem State.settleFrom_tripReported (before : State) (hs : s.TripReported l n) :
    (State.settleFrom before s).TripReported l n := by
  refine State.settleFrom_keeps (P := State.TripReported l n) before (fun u t hu ht => ?_) (fun u t m hu ht => ?_)
    (fun u t hu ht => ?_) (fun u t fresh hu ht => ?_) (fun u hu hstop => ?_) (fun u hu => ?_) s hs
  · refine hu.of_same (State.fetchBegin_ordered ht) (State.fetchBegin_moved ht l) ?_
    obtain ⟨-, r, -, rfl⟩ := State.fetchBegin_cases ht
    obtain ⟨m, side, -, h⟩ | ⟨-, h⟩ := State.reserve_cases _ r <;> rw [h]
    · refine State.lines_setLine (s := u) (l := m) Line.SameTrip.refl ?_ l
      rw [Engine.setReserved_eq]
      exact ⟨rfl, rfl, rfl, rfl⟩
    · exact .refl _
  · have hordered := State.engineMove_ordered ht
    refine ⟨(State.engineMove_moved ht l).down hu.1, ?_⟩
    obtain hwaits | hposts := hu.2
    · obtain ⟨ln, cache, hstep, rfl⟩ := State.engineMove_cases ht
      have hline : ({ u.setLine m ln with cache := cache } : State).line l = if l = m then ln else u.line l :=
        State.line_setLine u m l ln
      by_cases hm : l = m
      · subst hm
        rw [if_pos rfl] at hline
        obtain hwaits' | hout := hwaits.engineStep hstep
        · exact .inl (by rw [hline]; exact hwaits')
        · exact .inr (.inl (by rw [hline]; exact hout))
      · rw [if_neg hm] at hline
        exact .inl (by rw [hline]; exact hwaits)
    · exact .inr (hordered.posts hposts)
  · refine hu.of_same (State.servicePlace_ordered ht) (State.servicePlace_moved ht l) ?_
    obtain ⟨c, rest, -, -, rfl⟩ := State.servicePlace_cases ht
    exact .refl _
  · refine hu.of_same (State.take_ordered ht) (State.take_moved ht l) ?_
    obtain ⟨-, k, c, i, v, rfl, ⟨m, -, rfl⟩ | ⟨-, rfl⟩⟩ := State.take_source ht
    · exact State.lines_setLine (s := u) (l := m)
        (ln := { u.line m with engine := { (u.line m).engine with slot := none } }) Line.SameTrip.refl
        ⟨rfl, rfl, rfl, rfl⟩ l
    · exact .refl _
  · refine hu.of_same u.enterHalted_ordered (State.enterHalted_moved hstop l) ?_
    have hline : u.enterHalted.line l = (u.line l).clearBarred := by
      rw [State.enterHalted_eq]; exact u.line_mapLines Line.clearBarred l
    rw [hline]
    exact ⟨rfl, rfl, rfl, rfl⟩
  · refine hu.of_same u.relabel_ordered (u.relabel_moved l) ?_
    obtain ⟨st, h, -⟩ := (u.line l).relabel_eq
    rw [State.line_mapLines, h]
    exact ⟨rfl, rfl, rfl, rfl⟩

/-- After a trip on a sound line within no unit the trip waits (R26). -/
theorem State.Sound.trip_waits (h : s.Sound) (hcont : (s.line l).engine.cont = .boundary)
    (heffects : ∀ o ∈ (s.line l).engine.owed, o.effect ≠ .driverFailed) :
    ((s.line l).trip (s.ctx l)).Down ∧ ((s.line l).trip (s.ctx l)).TripWaits (s.line l).driver.restartsLeft := by
  obtain ⟨-, -, -, hdriver, hrestarts, hpending, -⟩ := (s.line l).tripped_work
  obtain ⟨-, hc, -, -, -, howed⟩ := (s.line l).tripped_leaves
  refine ⟨⟨?_, Line.trip_xcvr _ _⟩, ?_⟩ <;> by_cases hidle : (s.line l).xcvr.state = .idle
  · rw [Line.trip_eq, if_pos hidle, hdriver]; nofun
  · obtain ⟨p, -, htrip⟩ := h.trip_cutOff hidle
    rw [htrip, (Line.exchangeTripped_leaves _ p).2.1, hdriver]; nofun
  · rw [Line.trip_eq, if_pos hidle]
    exact ⟨hpending, hdriver, hrestarts, hc.trans hcont, howed ▸ heffects⟩
  · obtain ⟨p, -, htrip⟩ := h.trip_cutOff hidle
    rw [htrip]
    exact ⟨by simp [hpending], by simp [hdriver], by simp [hrestarts], by simp, by simpa [howed] using heffects⟩

end

/-- Settles O32: the trip waits when the happening is over, and what follows keeps it waiting or puts LINE_TRIPPED on its
way. -/
theorem tripIsReported : Obligations.TripIsReported := by
  intro s l hsound hserving hdriver hnone hcont heffects
  have hexec : exec (.overcurrentTrip l) s = .next (s.wake l ((s.line l).trip (s.ctx l))) := by
    rw [exec_overcurrentTrip, if_pos ⟨s.serving_iff.mpr hserving, hdriver⟩]
  obtain ⟨hdown, hwaits⟩ := hsound.trip_waits hcont heffects
  have hset : (s.setLine l ((s.line l).trip (s.ctx l))).TripReported l (s.line l).driver.restartsLeft := by
    rw [State.TripReported, State.line_setLine_self]
    exact ⟨hdown, .inl hwaits⟩
  have hreported : (s.wake l ((s.line l).trip (s.ctx l))).TripReported l (s.line l).driver.restartsLeft := by
    unfold State.wake
    split
    · exact State.settleFrom_tripReported s hset
    · exact hset
  obtain ⟨⟨hup, hidle⟩, hwaits | hposts⟩ := hreported
  · exact ⟨_, hexec, hup, hidle, .inl ⟨hwaits.pending, hwaits.driver⟩⟩
  · exact ⟨_, hexec, hup, hidle, .inr hposts⟩

end Sys2Proof.Machine
end

section
/-! PROOFS. The end of an exchange: what it leaves alone, the misses of a FAILED one and what a VALID IDENTIFY decides (R41 to
R58). -/

namespace Sys2Proof.Machine

/-! ## The consequence for the work -/

/-- `b` has the driver and the table of `a`, and owes some more records, none of them an event. -/
def Line.Adds (a b : Line) : Prop :=
  b.driver = a.driver ∧ b.table = a.table ∧
    ∃ more, b.engine.owed = a.engine.owed ++ more ∧ ∀ o ∈ more, o.record.type ≠ .event

section
variable {a b c : Line}

theorem Line.Adds.of_owed {more : List Owed} (hdriver : b.driver = a.driver) (htable : b.table = a.table)
    (howed : b.engine.owed = a.engine.owed ++ more) (hmore : ∀ o ∈ more, o.record.type ≠ .event) : a.Adds b :=
  ⟨hdriver, htable, more, howed, hmore⟩

theorem Line.Adds.of_eq (hdriver : b.driver = a.driver) (htable : b.table = a.table) (howed : b.engine.owed = a.engine.owed) :
    a.Adds b :=
  .of_owed (more := []) hdriver htable (by simp [howed]) (by simp)

theorem Line.Adds.refl (a : Line) : a.Adds a := .of_eq rfl rfl rfl

theorem Line.Adds.trans (h : a.Adds b) (h' : b.Adds c) : a.Adds c := by
  obtain ⟨hdriver, htable, m, howed, hm⟩ := h
  obtain ⟨hdriver', htable', n, howed', hn⟩ := h'
  refine .of_owed (more := m ++ n) (hdriver'.trans hdriver) (htable'.trans htable) (by rw [howed', howed, List.append_assoc])
    (fun o ho => ?_)
  obtain ho | ho := List.mem_append.mp ho
  · exact hm o ho
  · exact hn o ho

end

section
variable (ln : Line) (l : LineId) (code : Code) (count : Nat) (detail : BitVec 32)

theorem Line.completeUrgent_adds : ln.Adds (ln.completeUrgent l code count detail) := by
  obtain ⟨-, h⟩ | ⟨r, rest, -, h⟩ := ln.completeUrgent_cases l code count detail <;> rw [h]
  · exact .refl ln
  · exact .of_owed rfl rfl rfl (by simp)

theorem Line.completeRoutine_adds : ln.Adds (ln.completeRoutine l code count detail) := by
  obtain ⟨-, h⟩ | ⟨r, rest, -, h⟩ := ln.completeRoutine_cases l code count detail <;> rw [h]
  · exact .of_eq rfl rfl rfl
  · exact .of_owed rfl rfl rfl (by simp)

theorem Line.completeActive_adds : ln.Adds (ln.completeActive l code detail) := by
  obtain ⟨-, h⟩ | ⟨t, -, h⟩ := ln.completeActive_eq l code detail <;> rw [h]
  · exact .refl ln
  · exact ln.completeRoutine_adds _ _ _ _

theorem Line.returnCollection_adds : ln.Adds (ln.returnCollection l code) := by
  obtain ⟨-, h⟩ | ⟨k, -, -, h⟩ | ⟨k, b, -, -, h⟩ := ln.returnCollection_cases l code <;> rw [h]
  · exact .refl ln
  · exact .of_eq rfl rfl rfl
  · exact .of_owed rfl rfl rfl (by simp)

theorem Line.endCollection_adds : ln.Adds (ln.endCollection l code) :=
  (ln.returnCollection_adds l code).trans (.of_eq rfl rfl rfl)

/-- The head leaves the queue that completes, and only it (R87, R88). -/
@[simp] theorem Line.completeUrgent_urgent : (ln.completeUrgent l code count detail).engine.urgent = ln.engine.urgent.tail := by
  obtain ⟨hr, h⟩ | ⟨r, rest, hr, h⟩ := ln.completeUrgent_cases l code count detail <;> simp [h, hr]

@[simp] theorem Line.completeRoutine_routine : (ln.completeRoutine l code count detail).engine.routine = ln.engine.routine.tail := by
  obtain ⟨hr, h⟩ | ⟨r, rest, hr, h⟩ := ln.completeRoutine_cases l code count detail <;> simp [h, hr]

theorem Line.completeActive_routine :
    (ln.completeActive l code detail).engine.routine = ln.engine.routine ∨
      (ln.completeActive l code detail).engine.routine = ln.engine.routine.tail := by
  obtain ⟨-, h⟩ | ⟨t, -, h⟩ := ln.completeActive_eq l code detail <;> rw [h]
  · exact .inl rfl
  · exact .inr (by simp)

end

/-- What the consequence of an exchange does to the work of its line: at most the head leaves each queue, and no event is
produced. -/
structure Line.Works (a b : Line) : Prop where
  adds : a.Adds b
  urgent : b.engine.urgent = a.engine.urgent ∨ b.engine.urgent = a.engine.urgent.tail
  routine : b.engine.routine = a.engine.routine ∨ b.engine.routine = a.engine.routine.tail

section
variable {a b c : Line}

theorem Line.Works.of_adds (hadds : a.Adds b) (hu : b.engine.urgent = a.engine.urgent)
    (hr : b.engine.routine = a.engine.routine) : a.Works b :=
  ⟨hadds, .inl hu, .inl hr⟩

theorem Line.Works.of_eq (hdriver : b.driver = a.driver) (htable : b.table = a.table) (hu : b.engine.urgent = a.engine.urgent)
    (hr : b.engine.routine = a.engine.routine) (howed : b.engine.owed = a.engine.owed) : a.Works b :=
  .of_adds (.of_eq hdriver htable howed) hu hr

/-- Changes outside driver, table, queues and owed records come before. -/
theorem Line.Works.after (h : b.Works c) (hdriver : b.driver = a.driver) (htable : b.table = a.table)
    (hu : b.engine.urgent = a.engine.urgent) (hr : b.engine.routine = a.engine.routine)
    (howed : b.engine.owed = a.engine.owed) : a.Works c :=
  ⟨.trans (.of_eq hdriver htable howed) h.adds, hu ▸ h.urgent, hr ▸ h.routine⟩

end

section
variable (ln : Line) (x : LineCtx) (l : LineId) (code : Code) (count : Nat) (detail : BitVec 32) (res : ExchangeResult)

theorem Line.completeUrgent_works : ln.Works (ln.completeUrgent l code count detail) :=
  ⟨ln.completeUrgent_adds l code count detail, .inr (by simp), .inl (by simp)⟩

theorem Line.completeRoutine_works : ln.Works (ln.completeRoutine l code count detail) :=
  ⟨ln.completeRoutine_adds l code count detail, .inl (by simp), .inr (by simp)⟩

theorem Line.completeActive_works : ln.Works (ln.completeActive l code detail) :=
  ⟨ln.completeActive_adds l code detail, .inl (by simp), ln.completeActive_routine l code detail⟩

theorem Line.endCollection_works : ln.Works (ln.endCollection l code) :=
  .of_adds (ln.endCollection_adds l code) (by simp [Line.endCollection]) (by simp [Line.endCollection])

theorem Line.setCont_works (k : Cont) : ln.Works (ln.setCont k) := .of_eq rfl rfl rfl rfl rfl

theorem Line.setTransfer_works (t : Transfer) : ln.Works (ln.setTransfer t) := .of_eq rfl rfl rfl rfl rfl

/-- The active record completes after a change of its context. -/
theorem Line.setTransfer_completeActive_works (t : Transfer) :
    ln.Works ((ln.setTransfer t).completeActive l code detail) :=
  ((ln.setTransfer t).completeActive_works l code detail).after rfl rfl rfl rfl rfl

theorem Line.urgentSendEnd_works : ln.Works (ln.urgentSendEnd x res) := by
  unfold Line.urgentSendEnd
  split
  · exact .of_eq rfl rfl rfl rfl rfl
  · split
    · exact ln.completeUrgent_works _ _ _ _
    · split
      · split
        · exact ln.completeUrgent_works _ _ _ _
        · exact ln.setCont_works _
      · dsimp only
        split
        · exact ln.completeUrgent_works _ _ _ _
        · exact .of_eq rfl rfl rfl rfl rfl
      · exact ln.completeUrgent_works _ _ _ _

theorem Line.probeEnd_works : ln.Works (ln.probeEnd l res) := by
  unfold Line.probeEnd
  split <;> exact ln.completeUrgent_works _ _ _ _

theorem Line.abortActive_works (r : Request) : ln.Works (ln.abortActive l r) := by
  obtain ⟨hadds, -, hr⟩ := ln.completeActive_works l .aborted (tagDetail r.tag)
  exact ⟨hadds.trans (Line.completeUrgent_adds _ _ _ _ _), .inr (by simp [Line.abortActive]),
    by simpa [Line.abortActive] using hr⟩

theorem Line.abortCloseEnd_works : ln.Works (ln.abortCloseEnd l) := by
  unfold Line.abortCloseEnd
  split
  · exact .of_eq rfl rfl rfl rfl rfl
  · exact ln.abortActive_works l _

theorem Line.pollEnd_works (before : EntryState) (n : Node) : ln.Works (ln.pollEnd before n res) := by
  unfold Line.pollEnd
  split
  · exact ln.setCont_works _
  · split
    · exact .of_eq rfl rfl rfl rfl rfl
    · split
      · exact .of_eq rfl rfl rfl rfl rfl
      · exact ln.setCont_works _

theorem Line.collectEnd_works : ln.Works (ln.collectEnd x res) := by
  unfold Line.collectEnd
  split
  · exact .of_eq rfl rfl rfl rfl rfl
  · split
    · exact ln.endCollection_works _ _
    · split
      · exact ln.endCollection_works _ _
      · exact ln.endCollection_works _ _
      · split
        · exact .of_eq rfl rfl rfl rfl rfl
        · exact ln.setCont_works _

theorem Line.stepBusy_works (t : Transfer) : ln.Works (ln.stepBusy x t) := by
  unfold Line.stepBusy
  dsimp only
  split
  · split
    · exact .of_eq rfl rfl rfl rfl rfl
    · exact ln.setTransfer_completeActive_works _ _ _ _
  · exact ln.setTransfer_works _

theorem Line.stepEnd_works : ln.Works (ln.stepEnd x res) := by
  unfold Line.stepEnd
  split
  · exact .of_eq rfl rfl rfl rfl rfl
  · split
    · exact ln.completeActive_works _ _ _
    · split
      · exact ln.stepBusy_works x _
      · exact ln.setTransfer_completeActive_works _ _ _ _
      · split
        · unfold Line.commandAck
          split
          · exact ln.completeRoutine_works _ _ _ _
          · exact ln.setCont_works _
        · unfold Line.wdataAck
          dsimp only
          split
          · exact ln.setTransfer_completeActive_works _ _ _ _
          · exact ln.setTransfer_works _
        · unfold Line.ropenAck
          dsimp only
          split <;> exact .of_eq rfl rfl rfl rfl rfl
        · exact ln.setCont_works _
        · exact ln.completeActive_works _ _ _

theorem Line.closingEnd_works : ln.Works (ln.closingEnd l) := by
  unfold Line.closingEnd
  split
  · exact ln.completeActive_works _ _ _
  · exact .of_eq rfl rfl rfl rfl rfl

/-- The consequence of an exchange for its work: after the CLOSE COLLECTED with an entry's offer length made absent (R135). -/
theorem Line.workEnd_works (p : Purpose) (before : EntryState) (n : Node) :
    ln.Works (ln.workEnd x p before n res) ∨
      p = .closeCollected ∧ ∃ k, ln.engine.collection = some k ∧
        (ln.setEntry k.node { ln.entry k.node with offerLength := none }).Works (ln.workEnd x p before n res) := by
  cases p with
  | urgentSend => exact .inl (ln.urgentSendEnd_works x res)
  | urgentProbe => exact .inl (ln.probeEnd_works x.line res)
  | abortClose => exact .inl (ln.abortCloseEnd_works x.line)
  | poll => exact .inl (ln.pollEnd_works res before n)
  | identifyTurn => exact .inl (ln.setCont_works _)
  | rejoin => exact .inl (ln.setCont_works _)
  | collect => exact .inl (ln.collectEnd_works x res)
  | closeCollected =>
    show ln.Works (ln.closeCollectedEnd x res) ∨ _
    cases hk : ln.engine.collection with
    | none =>
      have hsame : ln.closeCollectedEnd x res = ln := by simp [Line.closeCollectedEnd, hk]
      exact .inl (by rw [hsame]; exact .of_eq rfl rfl rfl rfl rfl)
    | some k =>
      have hend : ln.closeCollectedEnd x res = (ln.setEntry k.node { ln.entry k.node with offerLength := none }).endCollection
          x.line (if res.reply.isSome then .ok else .unconfirmed) := by simp [Line.closeCollectedEnd, hk]
      refine .inr ⟨rfl, k, rfl, ?_⟩
      show Line.Works _ (ln.closeCollectedEnd x res)
      rw [hend]
      exact Line.endCollection_works _ _ _
  | step => exact .inl (ln.stepEnd_works x res)
  | closing => exact .inl (ln.closingEnd_works x.line)

end

section
variable {ln : Line} {x : LineCtx} {res : ExchangeResult} {p : Purpose} {f : Frame}

/-- The end of an exchange that was not cut off: one entry is as its result makes it, but for its offer length after a CLOSE
COLLECTED; the events come first, and what the work adds is none (R41). -/
theorem Line.exchangeEnd_works (hp : ln.engine.purpose = some p) (hf : ln.xcvr.frame = some f) (hres : res.tripped = false) :
    (ln.exchangeApplied x f res).Works (ln.exchangeEnd x res) ∨
      p = .closeCollected ∧ ∃ k, ln.engine.collection = some k ∧
        ((ln.exchangeApplied x f res).setEntry k.node
          { (ln.exchangeApplied x f res).entry k.node with offerLength := none }).Works (ln.exchangeEnd x res) := by
  rw [Line.exchangeEnd_of_not_tripped hp hf hres]
  obtain hworks | ⟨hclose, k, hk, hworks⟩ :=
    (ln.exchangeApplied x f res).workEnd_works x res p (ln.entry f.node).state f.node
  · exact .inl hworks
  · exact .inr ⟨hclose, k, by simpa using hk, hworks⟩

end

/-- Settles O42. -/
theorem exchangeEndTouchesOneEntry : Obligations.ExchangeEndTouchesOneEntry := by
  intro ln x res p f hp hf hclose e
  obtain ⟨hxcvr, hstate, hpurpose, haccess, -⟩ := Line.exchangeEnd_leaves x ln res
  refine ⟨hxcvr, hstate, hpurpose, haccess, ?_⟩
  obtain ⟨hentry, hdriver, -, -, -, hu, hr, -⟩ := ln.exchangeApplied_leaves x f res
  cases htripped : res.tripped with
  | true =>
    have he : e = ln.exchangeTripped p := Line.exchangeEnd_of_tripped hp hf htripped
    rw [he]
    simp
  | false =>
    obtain ⟨⟨hdr, htable, -⟩, hurgent, hroutine⟩ | ⟨hpurp, k, hk, ⟨hdr, htable, -⟩, hurgent, hroutine⟩ :=
      Line.exchangeEnd_works (x := x) hp hf htripped
    · refine ⟨hdr.trans hdriver, fun n hn => ?_, hu ▸ hurgent, hr ▸ hroutine⟩
      rw [Line.entry_congr htable, hentry, if_neg hn]
    · refine ⟨hdr.trans hdriver, fun n hn => ?_, hu ▸ hurgent, hr ▸ hroutine⟩
      have hnode := hclose hpurp k hk
      rw [Line.entry_congr htable, Line.entry_setEntry, if_neg (by rw [hnode]; exact hn), hentry, if_neg hn]

end Sys2Proof.Machine
end

section
/-! PROOFS. The misses of a FAILED exchange and their events, and what a VALID IDENTIFY decides (R42 to R58). -/

namespace Sys2Proof.Machine

/-! ## The entry and the events of an exchange -/

section
variable {ln : Line} {x : LineCtx} {res : ExchangeResult} {p : Purpose} {f : Frame}

/-- The entry addressed is as the result makes it; a CLOSE COLLECTED may make its offer length absent as well (R41, R135). -/
theorem Line.exchangeEnd_entry (hp : ln.engine.purpose = some p) (hf : ln.xcvr.frame = some f) (hres : res.tripped = false) :
    (ln.exchangeEnd x res).entry f.node = ((ln.entry f.node).afterExchange x.cfg f.kind res).1 ∨
      p = .closeCollected ∧ (ln.exchangeEnd x res).entry f.node =
        { ((ln.entry f.node).afterExchange x.cfg f.kind res).1 with offerLength := none } := by
  have happlied : (ln.exchangeApplied x f res).entry f.node = ((ln.entry f.node).afterExchange x.cfg f.kind res).1 := by
    rw [(ln.exchangeApplied_leaves x f res).1, if_pos rfl]
  obtain ⟨⟨-, htable, -⟩, -⟩ | ⟨hclose, k, -, ⟨-, htable, -⟩, -⟩ := Line.exchangeEnd_works (x := x) hp hf hres
  · exact .inl (by rw [Line.entry_congr htable, happlied])
  · rw [Line.entry_congr htable, Line.entry_setEntry]
    split
    · next hk => exact .inr ⟨hclose, by rw [← hk, happlied]⟩
    · exact .inl happlied

/-- The events of the entry's change are owed next, and nothing after them is an event (R40, R41). -/
theorem Line.exchangeEnd_owed (hp : ln.engine.purpose = some p) (hf : ln.xcvr.frame = some f) (hres : res.tripped = false) :
    ∃ more, (ln.exchangeEnd x res).engine.owed = ln.engine.owed ++
        ((eventRecords x.line f.node ((ln.entry f.node).afterExchange x.cfg f.kind res).2).map (fun c => ⟨c, .none⟩) ++ more) ∧
      ∀ o ∈ more, o.record.type ≠ .event := by
  have happlied := (ln.exchangeApplied_leaves x f res).2.2.2.2.2.2.2.2.2.2.2.2.2.2.2.2.2
  obtain ⟨⟨-, -, more, howed, hmore⟩, -⟩ | ⟨-, k, -, ⟨-, -, more, howed, hmore⟩, -⟩ :=
    Line.exchangeEnd_works (x := x) hp hf hres
  · exact ⟨more, by rw [howed, happlied, List.append_assoc], hmore⟩
  · refine ⟨more, ?_, hmore⟩
    rw [howed]
    show (ln.exchangeApplied x f res).engine.owed ++ more = _
    rw [happlied, List.append_assoc]

end

/-! ## A FAILED exchange -/

section
variable {e : Entry} {cfg : LineConfig} {kind : FrameKind} {attempts garbled : Nat}

/-- The result of an exchange that FAILED without a trip. -/
def ExchangeResult.failed (attempts garbled : Nat) : ExchangeResult :=
  { reply := none, attempts := attempts, garbled := garbled }

theorem Entry.applyFailed_of_present (hst : e.state = .present) (res : ExchangeResult) :
    e.applyFailed cfg kind res = e.miss cfg := by
  simp [Entry.applyFailed, hst]

theorem Entry.applyFailed_of_silent (hst : e.state = .silent) (hkind : kind = .poll ∨ kind = .identify) (res : ExchangeResult) :
    ∃ check, (kind = .identify → check = false) ∧
      e.applyFailed cfg kind res = Entry.silentMiss { e with rejoinCheck := check } cfg := by
  obtain rfl | rfl := hkind
  · exact ⟨e.rejoinCheck, nofun, by simp [Entry.applyFailed, hst, Entry.silentMiss, Entry.clear, Entry.identityDetail]⟩
  · exact ⟨false, fun _ => rfl, by simp [Entry.applyFailed, hst]⟩

theorem Entry.applyFailed_of_vacant (hst : e.state = .vacant) (hkind : kind = .identify) :
    e.applyFailed cfg kind (.failed attempts garbled) =
      if garbled = attempts then ({ e with state := .conflict }, [⟨.addressConflict, 0, BitVec.ofNat 32 attempts⟩])
      else (e, []) := by
  simp [Entry.applyFailed, hst, hkind, ExchangeResult.failed]

theorem Entry.applyFailed_of_conflict (hst : e.state = .conflict) (hkind : kind = .identify) :
    e.applyFailed cfg kind (.failed attempts garbled) = if garbled = attempts then (e, []) else (e.clear, []) := by
  by_cases h : garbled = attempts <;> simp [Entry.applyFailed, hst, hkind, ExchangeResult.failed, h]

end

/-- Settles O43: the entry is as the result makes it, and its events are owed first. -/
theorem failedExchangeCountsAMiss : Obligations.FailedExchangeCountsAMiss := by
  intro ln x p f attempts garbled hp hf e after e' event noEvent
  have hentry : e' = (e.applyFailed x.cfg f.kind (.failed attempts garbled)).1 ∨ p = .closeCollected ∧
      e' = { (e.applyFailed x.cfg f.kind (.failed attempts garbled)).1 with offerLength := none } :=
    Line.exchangeEnd_entry (res := .failed attempts garbled) hp hf rfl
  obtain ⟨more, howed, hmore⟩ : ∃ more, after.engine.owed = ln.engine.owed ++ ((eventRecords x.line f.node
      (e.applyFailed x.cfg f.kind (.failed attempts garbled)).2).map (fun c => ⟨c, .none⟩) ++ more) ∧
        ∀ o ∈ more, o.record.type ≠ .event :=
    Line.exchangeEnd_owed (res := .failed attempts garbled) hp hf rfl
  have hnoEvent : (e.applyFailed x.cfg f.kind (.failed attempts garbled)).2 = [] → noEvent := fun hnone => by
    rw [hnone] at howed
    exact ⟨more, howed, hmore⟩
  have hevent : ∀ code detail, (e.applyFailed x.cfg f.kind (.failed attempts garbled)).2 = [⟨code, 0, detail⟩] →
      event code detail := fun code detail hone => by
    rw [hone] at howed
    exact ⟨more, howed⟩
  have hsame : ∀ e₁, (e.applyFailed x.cfg f.kind (.failed attempts garbled)).1 = e₁ →
      e' = e₁ ∨ p = .closeCollected ∧ e' = { e₁ with offerLength := none } := fun e₁ h => h ▸ hentry
  refine ⟨fun hst hless => ?_, fun hst hle => ?_, fun hst hkind hless => ?_, fun hst hkind hle => ?_, fun hst hkind => ?_,
    fun hst hkind hall => ?_, fun hst hkind hsome => ?_, fun hst hkind hall => ?_, fun hst hkind hsome => ?_, ?_⟩
  · have hmiss : e.applyFailed x.cfg f.kind (.failed attempts garbled) = ({ e with missCount := e.missCount + 1 }, []) := by
      rw [Entry.applyFailed_of_present hst, Entry.miss, if_neg (by omega)]
    refine ⟨?_, ?_, hnoEvent (by rw [hmiss])⟩ <;>
      obtain h | ⟨-, h⟩ := hsame _ (congrArg Prod.fst hmiss) <;> simp [h, hst]
  · have hmiss : e.applyFailed x.cfg f.kind (.failed attempts garbled) =
        ({ e with state := .silent, missCount := 0, silentMisses := 0, rejoinCheck := false },
          [⟨.nodeSilent, 0, e.identity.getD 0⟩]) := by
      rw [Entry.applyFailed_of_present hst, Entry.miss, if_pos hle]; rfl
    refine ⟨?_, ?_, ?_, ?_, ?_, hevent _ _ (by rw [hmiss])⟩ <;>
      obtain h | ⟨-, h⟩ := hsame _ (congrArg Prod.fst hmiss) <;> simp [h]
  · obtain ⟨check, -, hfailed⟩ := Entry.applyFailed_of_silent (cfg := x.cfg) hst hkind (.failed attempts garbled)
    rw [Entry.silentMiss, if_neg (Nat.not_le_of_lt hless)] at hfailed
    refine ⟨?_, ?_, hnoEvent (by rw [hfailed])⟩ <;>
      obtain h | ⟨-, h⟩ := hsame _ (congrArg Prod.fst hfailed) <;> simp [h, hst]
  · obtain ⟨check, -, hfailed⟩ := Entry.applyFailed_of_silent (cfg := x.cfg) hst hkind (.failed attempts garbled)
    rw [Entry.silentMiss, if_pos hle] at hfailed
    refine ⟨?_, ?_, hevent _ _ (by rw [hfailed]; rfl)⟩ <;>
      obtain h | ⟨-, h⟩ := hsame _ (congrArg Prod.fst hfailed) <;> simp [h, Entry.clear, Entry.initial]
  · obtain ⟨check, hcheck, hfailed⟩ :=
      Entry.applyFailed_of_silent (cfg := x.cfg) hst (.inr hkind) (.failed attempts garbled)
    have hunchecked : (e.applyFailed x.cfg f.kind (.failed attempts garbled)).1.rejoinCheck = false := by
      rw [hfailed, hcheck hkind, Entry.silentMiss]
      split <;> rfl
    obtain h | ⟨-, h⟩ := hentry <;> rw [h] <;> exact hunchecked
  · have hfailed := Entry.applyFailed_of_vacant (cfg := x.cfg) (attempts := attempts) (garbled := garbled) hst hkind
    rw [if_pos hall] at hfailed
    refine ⟨?_, hevent _ _ (by rw [hfailed])⟩
    obtain h | ⟨-, h⟩ := hsame _ (congrArg Prod.fst hfailed) <;> simp [h]
  · have hfailed := Entry.applyFailed_of_vacant (cfg := x.cfg) (attempts := attempts) (garbled := garbled) hst hkind
    rw [if_neg hsome] at hfailed
    exact ⟨hnoEvent (by rw [hfailed]), fun hother => (hsame _ (congrArg Prod.fst hfailed)).resolve_right (fun h => hother h.1)⟩
  · have hfailed := Entry.applyFailed_of_conflict (cfg := x.cfg) (attempts := attempts) (garbled := garbled) hst hkind
    rw [if_pos hall] at hfailed
    exact ⟨hnoEvent (by rw [hfailed]), fun hother => (hsame _ (congrArg Prod.fst hfailed)).resolve_right (fun h => hother h.1)⟩
  · have hfailed := Entry.applyFailed_of_conflict (cfg := x.cfg) (attempts := attempts) (garbled := garbled) hst hkind
    rw [if_neg hsome] at hfailed
    refine ⟨hnoEvent (by rw [hfailed]), ?_⟩
    obtain h | ⟨-, h⟩ := hsame _ (congrArg Prod.fst hfailed) <;> exact h
  · have hcut := Line.exchangeEnd_of_tripped (x := x)
      (res := { reply := none, attempts := attempts, garbled := garbled, tripped := true }) hp hf rfl
    intro cut
    have hcut' : cut = ln.exchangeTripped p := hcut
    rw [hcut']
    simp [e]

/-! ## A VALID IDENTIFY -/

section
variable (e : Entry) (cfg : LineConfig) (r : Reply) (attempts garbled : Nat)

/-- A VALID IDENTIFY: the toggles are 0, the identity decides, and the alert follows the reply (R17, R41, R42). -/
theorem Entry.afterExchange_identify (hack : r.kind = .ack) (res : ExchangeResult) (hres : res.reply = some r) :
    let e₀ := { e with sendToggle := false, recvToggle := false }
    let e₁ := e₀.identifyValid (identityOf r) (capabilityOf r)
    e.afterExchange cfg .identify res = ((e₁.1.applyAlert r).1, e₁.2 ++ (e₁.1.applyAlert r).2) := by
  simp [Entry.afterExchange, hres, Entry.applyToggles, hack, FrameKind.carriesSend, FrameKind.carriesRecv, Entry.applyValid]

/-- A VALID reply to any other frame ends the misses of a PRESENT entry (R45). -/
theorem Entry.afterExchange_present {kind : FrameKind} (hkind : kind ≠ .identify) (hst : e.state = .present)
    (res : ExchangeResult) (hres : res.reply = some r) :
    (e.afterExchange cfg kind res).1.missCount = 0 ∧ (e.afterExchange cfg kind res).1.state = .present := by
  have htoggles : (e.applyToggles kind r).state = .present := by
    unfold Entry.applyToggles
    repeat' split
    all_goals exact hst
  have hvalid : ((e.applyToggles kind r).applyValid kind r).1.missCount = 0 ∧
      ((e.applyToggles kind r).applyValid kind r).1.state = .present := by
    generalize e.applyToggles kind r = e₀ at htoggles
    cases kind with
    | identify => exact absurd rfl hkind
    | _ => simp [Entry.applyValid, htoggles]
  unfold Entry.afterExchange
  rw [hres]
  unfold Entry.applyAlert
  dsimp only
  split <;> exact hvalid

end

/-- Settles O44. -/
theorem validIdentifyDecidesTheEntry : Obligations.ValidIdentifyDecidesTheEntry := by
  intro e cfg r attempts garbled res after codes joined alert
  refine ⟨fun hack => ?_, fun kind hkind hst => Entry.afterExchange_present e cfg r hkind hst _ rfl⟩
  have hafter := Entry.afterExchange_identify e cfg r hack res rfl
  dsimp only at hafter
  have hvalid : ∀ e₁ evs, Entry.identifyValid { e with sendToggle := false, recvToggle := false } (identityOf r)
      (capabilityOf r) = (e₁, evs) → e₁.state = .present →
        after = { e₁ with alert := r.alert } ∧ codes = evs.map (·.code) ++ alert e₁.alert := fun e₁ evs h hst => by
    rw [h] at hafter
    simp only [after, codes, alert, hafter, Entry.applyAlert, hst, true_or, if_true, List.map_append, true_and]
    split <;> rfl
  refine ⟨fun hst => ?_, fun hst hid => ?_, fun hst hid hmisses hcheck => ?_, fun hst hid => ?_⟩
  · obtain ⟨h1, h2⟩ := hvalid (Entry.join (identityOf r) (capabilityOf r)) [⟨.nodeJoined, capabilityOf r, identityOf r⟩]
      (by obtain hst | hst := hst <;> simp [Entry.identifyValid, hst]) rfl
    exact ⟨by dsimp only [joined]; rw [h1]; exact ⟨rfl, rfl, rfl, rfl, rfl, rfl, rfl, rfl, rfl⟩, by rw [h1]; rfl, h2⟩
  · obtain ⟨h1, h2⟩ := hvalid { e with
        sendToggle := false, recvToggle := false, state := .present, capability := some (capabilityOf r), missCount := 0,
        silentMisses := 0, rejoinCheck := false } [⟨.nodeRejoined, capabilityOf r, identityOf r⟩]
      (by simp [Entry.identifyValid, hst, hid]) rfl
    exact ⟨by dsimp only [joined]; rw [h1]; exact ⟨rfl, hid, rfl, rfl, rfl, rfl, rfl, rfl, rfl⟩, by rw [h1], h2⟩
  · obtain ⟨h1, h2⟩ := hvalid { e with
        sendToggle := false, recvToggle := false, capability := some (capabilityOf r), missCount := 0 } []
      (by simp [Entry.identifyValid, hst, hid]) hst
    exact ⟨by dsimp only [joined]; rw [h1]; exact ⟨hst, hid, rfl, rfl, rfl, rfl, hmisses, hcheck, rfl⟩, by rw [h1], h2⟩
  · obtain ⟨h1, h2⟩ := hvalid (Entry.join (identityOf r) (capabilityOf r))
      [⟨.nodeLost, 0, e.identityDetail⟩, ⟨.nodeJoined, capabilityOf r, identityOf r⟩]
      (by obtain hst | hst := hst <;> simp [Entry.identifyValid, hst, hid, Entry.replaced, Entry.identityDetail]) rfl
    exact ⟨by dsimp only [joined]; rw [h1]; exact ⟨rfl, rfl, rfl, rfl, rfl, rfl, rfl, rfl, rfl⟩, by rw [h1]; rfl, h2⟩

end Sys2Proof.Machine
end

section
/-! PROOFS. The checks of a record at selection, the order of selection, and the lists of rounds (R36, R63 to R65, R77,
R89, R91). -/

namespace Sys2Proof.Machine

/-! ## Checks at selection -/

/-- A record that is well formed and names a node it may name meets the driver's state, then its node's entry (R36, R91). -/
theorem Line.checkRecord_of_good (ln : Line) {side : QueueSide} {r : Request} {k : RequestKind}
    (hgood : r.badRequest side = false) (hk : requestKind r.kind = some k) (hnode : r.badNode = false) :
    ln.checkRecord side r =
      if needsUp k ∧ ln.driver.state ≠ .up then some .lineDown
      else
        match k, nodeOf r.node with
        | .send, some n => entryCheck (ln.entry n).state
        | .store, some n => entryCheck (ln.entry n).state
        | .fetch, some n => entryCheck (ln.entry n).state
        | _, _ => none := by
  unfold Line.checkRecord
  rw [hgood, hnode, hk]
  rfl

/-- Settles O46: once the kind and the node are good, only the driver's state and the node's entry are left to ask. -/
theorem checksAtSelection : Obligations.ChecksAtSelection := by
  intro ln side r k hgood hk
  refine ⟨fun hanywhere => ?_, fun n hn => ?_⟩
  · have hnode : r.badNode = false := by
      rw [Bool.eq_false_iff, ne_eq, Request.badNode_iff hk]
      rintro ⟨habort, hpower, -⟩
      exact hanywhere.elim habort hpower
    rw [ln.checkRecord_of_good hgood hk hnode]
    obtain rfl | rfl := hanywhere <;> rfl
  · have hnode : r.badNode = false := by
      rw [Bool.eq_false_iff, ne_eq, Request.badNode_iff hk, hn]
      simp
    rw [ln.checkRecord_of_good hgood hk hnode, hn]
    refine ⟨fun hkind hdown => ?_, fun hkind hup => ?_, fun hkind hup => ?_, fun hkind => ?_⟩
    · have hneeds : needsUp k = true := by obtain rfl | rfl | rfl | rfl := hkind <;> rfl
      exact if_pos ⟨hneeds, hdown⟩
    · rw [if_neg fun h => h.2 hup]
      obtain rfl | rfl | rfl := hkind <;> dsimp only <;> cases (ln.entry n).state <;> rfl
    · rw [if_neg fun h => h.2 hup]
      subst hkind
      rfl
    · obtain rfl | rfl := hkind <;> rfl

/-! ## Selection -/

theorem Line.urgentHead_isSome (ln : Line) :
    ln.urgentHead.isSome ↔ ln.engine.urgent ≠ [] ∧ ln.engine.urgentDeadline = none := by
  unfold Line.urgentHead
  cases ln.engine.urgentDeadline <;> simp [List.isSome_head?]

theorem Line.pollReady_iff (ln : Line) :
    ln.pollReady ↔ ln.driver.state = .up ∧ (ln.rounds.round.isSome ∨ ln.rounds.pending = true) := by
  simp [Line.pollReady]

theorem Line.routineHead_isSome (ln : Line) :
    ln.routineHead.isSome ↔ ln.engine.routine ≠ [] ∧ ∀ t, ln.engine.transfer = some t → t.deadline = none := by
  unfold Line.routineHead
  split
  next t ht => cases hd : t.deadline <;> simp [ht, hd, List.isSome_head?]
  next ht => simp [ht, List.isSome_head?]

/-- Settles O47: selection asks the three classes in order. -/
theorem selectionOrder : Obligations.SelectionOrder := by
  intro ln urgent poll routine
  have hurgent : ln.urgentHead.isSome ↔ urgent := ln.urgentHead_isSome
  have hpoll : ln.pollReady ↔ poll := ln.pollReady_iff
  have hroutine : ln.routineHead.isSome ↔ routine := ln.routineHead_isSome
  rw [← hurgent, ← hpoll, ← hroutine]
  unfold Line.selectClass
  split
  next h => simp [h]
  next h =>
    split
    next h' => simp [h, h']
    next h' =>
      split
      next h'' => simp [h, h', h'']
      next h'' => simp [h, h', h'']

/-! ## The lists of rounds -/

/-- A list of turns made from the addresses in ascending order is itself in ascending order. -/
theorem pairwise_turns (keep : Node → Bool) (turn : Node → Turn) (hturn : ∀ n, (turn n).node = n) :
    ((allNodes.filter keep).map turn).Pairwise (fun a b => a.node.val < b.node.val) := by
  rw [List.pairwise_map]
  simp only [hturn]
  exact (List.pairwise_lt_finRange 12).filter keep

theorem polledIn_iff (kind : RoundKind) (e : EntryState) :
    polledIn kind e ↔ e = .present ∨ kind = .slow ∧ e = .silent := by
  cases e <;> simp [polledIn]

/-- The address `i` places after the one behind the probe cursor (R64). -/
def nodeAfter (cursor : Node) (i : Nat) : Node := ⟨(cursor.val + 1 + i) % 12, Nat.mod_lt _ (by decide)⟩

/-- Every address comes within twelve places of the cursor. -/
theorem exists_nodeAfter (cursor n : Node) : ∃ i, i < 12 ∧ nodeAfter cursor i = n :=
  ⟨(n.val + 11 - cursor.val) % 12, Nat.mod_lt _ (by decide), Fin.ext (by dsimp only [nodeAfter]; omega)⟩

/-- The probe slot is the first address after the cursor that qualifies (R64). -/
theorem Line.probeSlot_eq_some_iff (ln : Line) (cfg : LineConfig) (n : Node) :
    ln.probeSlot cfg = some n ↔ ∃ i, i < 12 ∧ n = nodeAfter ln.rounds.cursor i ∧
      ((ln.entry n).state == .vacant && cfg.mayProbe n) = true ∧
      ∀ j, j < i → ((ln.entry (nodeAfter ln.rounds.cursor j)).state == .vacant &&
        cfg.mayProbe (nodeAfter ln.rounds.cursor j)) = false := by
  have hlist : afterCursor ln.rounds.cursor = (List.range 12).map (nodeAfter ln.rounds.cursor) := rfl
  unfold Line.probeSlot
  rw [hlist, List.find?_map]
  simp only [Option.map_eq_some_iff, List.find?_range_eq_some, List.mem_range, Function.comp_apply, Bool.not_eq_true',
    Bool.eq_false_iff]
  constructor
  · rintro ⟨i, ⟨hyes, hi, hno⟩, rfl⟩
    exact ⟨i, hi, rfl, hyes, hno⟩
  · rintro ⟨i, hi, rfl, hyes, hno⟩
    exact ⟨i, ⟨hyes, hi, hno⟩, rfl⟩

theorem Line.probeSlot_eq_none_iff (ln : Line) (cfg : LineConfig) :
    ln.probeSlot cfg = none ↔ ∀ n, ((ln.entry n).state == .vacant && cfg.mayProbe n) = false := by
  have hlist : afterCursor ln.rounds.cursor = (List.range 12).map (nodeAfter ln.rounds.cursor) := rfl
  unfold Line.probeSlot
  rw [List.find?_eq_none, hlist]
  constructor
  · intro h n
    obtain ⟨i, hi, rfl⟩ := exists_nodeAfter ln.rounds.cursor n
    exact Bool.eq_false_iff.mpr (h _ (List.mem_map_of_mem (List.mem_range.mpr hi)))
  · intro h n _
    exact Bool.eq_false_iff.mp (h n)

/-- Settles O48. -/
theorem roundLists : Obligations.RoundLists := by
  intro ln cfg kind after qualifies
  have hqualifies : ∀ n, ((ln.entry n).state == .vacant && cfg.mayProbe n) = true ↔ qualifies n := fun n => by
    simp [qualifies, LineConfig.mayProbe, Node.address]
  refine ⟨fun n => ?_, fun n => ?_, pairwise_turns _ _ fun _ => rfl, pairwise_turns _ _ fun _ => rfl, fun n => ?_, ?_⟩
  · simp [Line.pollTurns, allNodes, polledIn_iff]
  · simp [Line.discoveryTurns, allNodes, LineConfig.mayProbe, Node.address]
  · rw [Line.probeSlot_eq_some_iff]
    simp only [Bool.eq_false_iff, ne_eq, hqualifies]
    rfl
  · rw [Line.probeSlot_eq_none_iff]
    simp only [Bool.eq_false_iff, ne_eq, hqualifies]

end Sys2Proof.Machine
end

section
/-! PROOFS. The records that BAR and POWER owe, in their order (R33 to R35, R52 to R54). -/

namespace Sys2Proof.Machine

/-! ## What the active record and the collection owe when they end -/

/-- The RESULT that the active record is answered with when it ends here (R97). -/
def Line.activeOwed (ln : Line) (l : LineId) (code : Code) (detail : BitVec 32) : List Owed :=
  match ln.engine.transfer, ln.engine.routine with
  | some t, r :: _ => [⟨resultRecord l r code t.bytesDone detail, .none⟩]
  | _, _ => []

/-- The ARRIVAL that returns the collection's buffer when it ends here (R137, R138). -/
def Line.collectedOwed (ln : Line) (l : LineId) (code : Code) : List Owed :=
  match ln.engine.collection with
  | some { node := m, buffer := some b, bytesWritten := w, .. } =>
    [⟨arrivalRecord l (BitVec.ofNat 8 (Node.address m)) code b.id w, .none⟩]
  | _ => []

section
variable (ln : Line) (l : LineId) (code : Code) (detail : BitVec 32)

@[simp] theorem Line.completeActive_owed :
    (ln.completeActive l code detail).engine.owed = ln.engine.owed ++ ln.activeOwed l code detail := by
  unfold Line.activeOwed
  obtain ⟨ht, h⟩ | ⟨t, ht, h⟩ := ln.completeActive_eq l code detail
  · simp [h, ht]
  · obtain ⟨hr, h'⟩ | ⟨r, rest, hr, h'⟩ := ln.completeRoutine_cases l code t.bytesDone detail <;> simp [h, h', ht, hr]

theorem Line.completeActive_routine_eq :
    (ln.completeActive l code detail).engine.routine =
      if ln.engine.transfer.isSome then ln.engine.routine.tail else ln.engine.routine := by
  obtain ⟨ht, h⟩ | ⟨t, ht, h⟩ := ln.completeActive_eq l code detail <;> simp [h, ht]

@[simp] theorem Line.returnCollection_owed :
    (ln.returnCollection l code).engine.owed = ln.engine.owed ++ ln.collectedOwed l code := by
  unfold Line.collectedOwed
  obtain ⟨hk, h⟩ | ⟨⟨m, o, b, w, f, x⟩, hk, hb, h⟩ | ⟨⟨m, o, b, w, f, x⟩, b', hk, hb, h⟩ := ln.returnCollection_cases l code
  · simp [h, hk]
  · dsimp only at hb
    subst hb
    simp [h, hk]
  · dsimp only at hb
    subst hb
    simp [h, hk]

/-- What the collection owes depends on the collection alone. -/
theorem Line.collectedOwed_congr {a b : Line} (h : a.engine.collection = b.engine.collection) :
    a.collectedOwed l code = b.collectedOwed l code := by
  unfold Line.collectedOwed
  rw [h]

end

/-! ## BAR and UNBAR -/

/-- What BAR does to an active record: that of the barred node completes (R52). -/
def Line.barActive (ln : Line) (l : LineId) (n : Node) : Line :=
  match ln.engine.transfer with
  | some t => if t.node = n then ln.completeActive l .nodeBarred 0 else ln
  | none => ln

/-- What BAR does to a collection: that of the barred node with a buffer ends and the round goes on (R52). -/
def Line.barCollection (ln : Line) (l : LineId) (n : Node) : Line :=
  match ln.engine.collection with
  | some { node := m, buffer := some _, .. } =>
    if m = n then (ln.returnCollection l .nodeBarred).setCont .advance else ln
  | _ => ln

theorem Line.bar_eq (ln : Line) (l : LineId) (n : Node) :
    ln.bar l n = (((ln.setEntry n (ln.entry n).bar).barActive l n).barCollection l n).completeUrgent l .ok 0 0 := by
  have hend : ∀ ended : Line,
      (match ended.engine.collection with
        | some { node := m, buffer := some _, .. } =>
          if m = n then ((ended.returnCollection l .nodeBarred).setCont .advance).completeUrgent l .ok 0 0
          else ended.completeUrgent l .ok 0 0
        | _ => ended.completeUrgent l .ok 0 0) = (ended.barCollection l n).completeUrgent l .ok 0 0 := fun ended => by
    unfold Line.barCollection
    obtain _ | ⟨m, o, _ | b, w, f, c⟩ := ended.engine.collection
    · rfl
    · rfl
    · dsimp only
      split <;> rfl
  exact hend _

section
variable (ln : Line) (l : LineId) (n : Node)

@[simp] theorem Line.barActive_leaves :
    let m := ln.barActive l n
    (∀ k, m.entry k = ln.entry k) ∧ m.driver = ln.driver ∧ m.xcvr = ln.xcvr ∧ m.rounds = ln.rounds ∧
      m.engine.urgent = ln.engine.urgent ∧ m.engine.collection = ln.engine.collection ∧ m.engine.cont = ln.engine.cont := by
  unfold Line.barActive
  split
  · split <;> simp
  · simp

@[simp] theorem Line.barCollection_leaves :
    let m := ln.barCollection l n
    (∀ k, m.entry k = ln.entry k) ∧ m.driver = ln.driver ∧ m.xcvr = ln.xcvr ∧ m.rounds = ln.rounds ∧
      m.engine.urgent = ln.engine.urgent ∧ m.engine.transfer = ln.engine.transfer ∧
      m.engine.routine = ln.engine.routine := by
  unfold Line.barCollection
  split
  · split <;> simp [Line.setCont, Line.entry]
  · simp

theorem Line.barActive_of_node {t : Transfer} (ht : ln.engine.transfer = some t) (hn : t.node = n) :
    ln.barActive l n = ln.completeActive l .nodeBarred 0 := by
  unfold Line.barActive
  rw [ht]
  exact if_pos hn

theorem Line.barActive_of_other (h : ∀ t, ln.engine.transfer = some t → t.node ≠ n) : ln.barActive l n = ln := by
  unfold Line.barActive
  split
  next t ht => exact if_neg (h t ht)
  next => rfl

theorem Line.barCollection_of_node {k : Collection} (hk : ln.engine.collection = some k) (hn : k.node = n)
    (hb : k.buffer.isSome) : ln.barCollection l n = (ln.returnCollection l .nodeBarred).setCont .advance := by
  obtain ⟨m, o, _ | b, w, f, c⟩ := k
  · exact absurd hb nofun
  · unfold Line.barCollection
    rw [hk]
    exact if_pos hn

theorem Line.barCollection_of_other
    (h : ∀ k, ln.engine.collection = some k → k.buffer.isSome → k.node ≠ n) : ln.barCollection l n = ln := by
  unfold Line.barCollection
  split
  next m o b w f c hk => exact if_neg (h _ hk rfl)
  next => rfl

/-- The records that BAR makes the active record owe. -/
theorem Line.barActive_owed :
    (ln.barActive l n).engine.owed = ln.engine.owed ++ (match ln.engine.transfer, ln.engine.routine with
      | some t, r :: _ => if t.node = n then [⟨resultRecord l r .nodeBarred t.bytesDone 0, .none⟩] else []
      | _, _ => []) := by
  cases ht : ln.engine.transfer with
  | none => rw [ln.barActive_of_other l n (by simp [ht]), List.append_nil]
  | some t =>
    by_cases hn : t.node = n
    · rw [ln.barActive_of_node l n ht hn, Line.completeActive_owed, Line.activeOwed, ht]
      cases ln.engine.routine <;> simp [hn]
    · rw [ln.barActive_of_other l n (by simp [ht, hn])]
      cases ln.engine.routine <;> simp [hn]

/-- The records that BAR makes the collection owe. -/
theorem Line.barCollection_owed :
    (ln.barCollection l n).engine.owed = ln.engine.owed ++ (match ln.engine.collection with
      | some { node := m, buffer := some b, bytesWritten := w, .. } =>
        if m = n then [⟨arrivalRecord l (BitVec.ofNat 8 (Node.address n)) .nodeBarred b.id w, .none⟩] else []
      | _ => []) := by
  obtain hk | ⟨⟨m, o, _ | b, w, f, c⟩, hk⟩ := Option.eq_none_or_eq_some ln.engine.collection
  · rw [ln.barCollection_of_other l n (by simp [hk])]
    simp [hk]
  · rw [ln.barCollection_of_other l n (by simp [hk])]
    simp [hk]
  · by_cases hn : m = n
    · rw [ln.barCollection_of_node l n hk hn rfl]
      simp [Line.setCont, Line.collectedOwed, hk, hn]
    · rw [ln.barCollection_of_other l n (by simp [hk, hn])]
      simp [hk, hn]

end

/-- Settles O49: BAR is the entry, the active record, the collection and the request itself, one after the other. -/
theorem barAndUnbar : Obligations.BarAndUnbar := by
  intro ln l n a rest hurgent hhead cleared result active collected
  obtain ⟨barred, hbarred⟩ : ∃ b, ln.setEntry n (ln.entry n).bar = b := ⟨_, rfl⟩
  have hengine : barred.engine = ln.engine := by rw [← hbarred]; rfl
  have hentry : ∀ k, barred.entry k = if k = n then (ln.entry n).bar else ln.entry k := fun k => by
    rw [← hbarred, Line.entry_setEntry]
  obtain ⟨hurgent', howed'⟩ := Line.completeUrgent_cons
    (ln := (barred.barActive l n).barCollection l n) (by simpa [hengine] using hurgent) l .ok 0 0
  refine ⟨?_, ?_⟩
  · rw [Line.bar_eq, hbarred]
    refine ⟨?_, fun m hm => ?_, hurgent', ?_, fun t ht hn => ?_, fun hother => ?_, fun k hk hn hb => ?_, fun hother => ?_,
      ?_, ?_, ?_⟩
    · simp only [Line.completeUrgent_leaves, Line.barCollection_leaves, Line.barActive_leaves, hentry, if_true]
      rfl
    · simp only [Line.completeUrgent_leaves, Line.barCollection_leaves, Line.barActive_leaves, hentry, if_neg hm]
    · rw [howed', Line.barCollection_owed, Line.barActive_owed]
      simp only [Line.barActive_leaves, hengine]
      rfl
    · simp [barred.barActive_of_node l n (hengine ▸ ht) hn, Line.completeActive_routine_eq, hengine, ht]
    · simp [barred.barActive_of_other l n (hengine ▸ hother), hengine]
    · rw [Line.barCollection_of_node _ l n (k := k) (by simp [hengine, hk]) hn hb]
      simp [Line.setCont]
    · rw [Line.barCollection_of_other _ l n (by simpa [hengine] using fun k hk _ => hother k hk)]
      simp [hengine]
    all_goals simp [← hbarred, Line.setEntry]
  · obtain ⟨hurgent'', howed''⟩ := Line.completeUrgent_cons
      (ln := ln.setEntry n (ln.entry n).unbar) hurgent l .ok 0 0
    refine ⟨?_, hurgent'', howed''⟩
    unfold Line.unbar
    simp only [Line.completeUrgent_leaves, Line.entry_setEntry, if_true]
    rfl

end Sys2Proof.Machine
end

section
/-! PROOFS. The POWER request by driver state (R27, R33 to R35). -/

namespace Sys2Proof.Machine

section
variable (ln : Line) (l : LineId)

/-- Switching a line OFF leaves what the active record owes. -/
theorem Line.turnOff_activeOwed (code : Code) (detail : BitVec 32) :
    ln.turnOff.activeOwed l code detail = ln.activeOwed l code detail := by
  unfold Line.activeOwed
  obtain ⟨-, h⟩ | ⟨-, h⟩ := ln.turnOff_cases <;> rw [h]
  cases ht : ln.engine.transfer <;> cases hr : ln.engine.routine <;> simp [Line.leaveUp, ht, hr]

/-- Switching a line OFF leaves what the collection owes: a collection that it drops holds no buffer (R130). -/
theorem Line.turnOff_collectedOwed (code : Code) : ln.turnOff.collectedOwed l code = ln.collectedOwed l code := by
  unfold Line.collectedOwed
  obtain ⟨-, h⟩ | ⟨-, h⟩ := ln.turnOff_cases <;> rw [h]
  obtain hk | ⟨⟨m, o, _ | b, w, f, c⟩, hk⟩ := Option.eq_none_or_eq_some ln.engine.collection <;>
    simp [Line.leaveUp, hk, Option.filter]

theorem Line.turnOff_transfer_isSome : ln.turnOff.engine.transfer.isSome = ln.engine.transfer.isSome := by
  obtain ⟨-, h⟩ | ⟨-, h⟩ := ln.turnOff_cases <;> simp [h, Line.leaveUp]

theorem Line.turnOff_rounds : ln.turnOff.rounds =
    if ln.driver.state = .up then
      { ln.rounds with pollTimer := none, pending := false, round := none, rejoin := none } else ln.rounds := by
  obtain ⟨hup, h⟩ | ⟨hup, h⟩ := ln.turnOff_cases <;> simp [h, hup, Line.leaveUp]

theorem Line.turnOff_urgentDeadline (hup : ln.driver.state = .up) : ln.turnOff.engine.urgentDeadline = none := by
  obtain ⟨-, h⟩ | ⟨hdown, -⟩ := ln.turnOff_cases
  · simp [h, Line.leaveUp]
  · exact absurd hup hdown

/-- Steps 1 to 4 of POWER OFF: what they change, and the records they owe in order (R34). -/
theorem Line.powerDown_eq :
    let m := ln.powerDown l
    m.driver = ln.driver.turnOff ∧ m.table = ln.table ∧ m.rounds = ln.turnOff.rounds ∧
      m.engine.urgent = ln.engine.urgent ∧ m.engine.urgentDeadline = ln.turnOff.engine.urgentDeadline ∧
      m.engine.transfer = none ∧ m.engine.collection = none ∧
      m.engine.routine = (if ln.engine.transfer.isSome then ln.engine.routine.tail else ln.engine.routine) ∧
      m.engine.owed = ln.engine.owed ++ [⟨lineEvent l .lineOff 0, .clearEntries⟩] ++ ln.activeOwed l .lineDown 0 ++
        ln.collectedOwed l .lineDown := by
  obtain ⟨off, hoff⟩ : ∃ off, ln.turnOff.produceWith (lineEvent l .lineOff 0) .clearEntries = off := ⟨_, rfl⟩
  have hactive : off.activeOwed l .lineDown 0 = ln.activeOwed l .lineDown 0 := by
    rw [← hoff, ← ln.turnOff_activeOwed l]
    rfl
  have hcollected : (off.completeActive l .lineDown 0).collectedOwed l .lineDown = ln.collectedOwed l .lineDown := by
    rw [← ln.turnOff_collectedOwed l]
    exact Line.collectedOwed_congr l .lineDown (by simp [← hoff, Line.produceWith])
  have howed : off.engine.owed = ln.engine.owed ++ [⟨lineEvent l .lineOff 0, .clearEntries⟩] := by
    simp [← hoff, Line.produceWith]
  unfold Line.powerDown
  rw [hoff]
  simp only [Line.returnCollection_leaves, Line.completeActive_leaves, Line.completeActive_routine_eq,
    Line.returnCollection_owed, Line.completeActive_owed, hactive, hcollected, howed, true_and, and_true]
  simp [← hoff, Line.produceWith, Line.turnOff_transfer_isSome]

end

/-- Settles O50: ON and the end of CYCLE apply the supply, OFF and the first half of CYCLE are `Line.powerDown`. -/
theorem powerOnAndOff : Obligations.PowerOnAndOff := by
  intro ln x a rest hurgent hhead result ok active collected lineOff
  have hactive : active = ln.activeOwed x.line .lineDown 0 := by
    dsimp only [active, Line.activeOwed]
    cases ln.engine.transfer <;> cases ln.engine.routine <;> rfl
  have hcollected : collected = ln.collectedOwed x.line .lineDown := by
    dsimp only [collected, Line.collectedOwed]
    obtain _ | ⟨m, o, _ | b, w, f, c⟩ := ln.engine.collection <;> rfl
  have hok : ∀ m : Line, m.engine.urgent = a :: rest → m.engine.owed = ln.engine.owed →
      (m.completeUrgent x.line .ok 0 0).engine.owed = ln.engine.owed ++ [ok] := fun m hu ho => by
    rw [(Line.completeUrgent_cons hu x.line .ok 0 0).2, ho]
    rfl
  obtain ⟨hdriver, htable, hrounds, hqueue, hdeadline, htransfer, hcollection, hroutine, howed⟩ := ln.powerDown_eq x.line
  have hoff : ln.driver.state ≠ .off →
      ln.powerOff x = (ln.powerDown x.line).completeUrgent x.line .ok 0 0 := fun h => if_neg h
  have hcycle : ln.driver.state ≠ .off → ln.powerCycle x = (ln.powerDown x.line).setCont .cycleOn := fun h => if_neg h
  refine ⟨fun hst => ?_, fun hst => ?_, fun hst => ?_, fun hst => ?_, fun hst => ?_, fun hst => ?_, fun hst => ?_, ?_, ?_,
    ?_, ?_⟩
  · have hon : ln.powerOn x = (ln.powerUp x.cfg).completeUrgent x.line .ok 0 0 := by
      unfold Line.powerOn
      obtain hst | hst | hst := hst <;> rw [hst]
    rw [hon]
    exact ⟨by rw [(Line.completeUrgent_leaves ..).2.1]; rfl, hok _ hurgent rfl⟩
  · have hon : ln.powerOn x = ln.completeUrgent x.line .ok 0 0 := by
      unfold Line.powerOn
      obtain hst | hst := hst <;> rw [hst]
    rw [hon]
    exact ⟨(Line.completeUrgent_leaves ..).2.1, hok _ hurgent rfl⟩
  · obtain ⟨h1, h2⟩ := Line.completeUrgent_cons (hqueue.trans hurgent) x.line .ok 0 0
    rw [hoff hst]
    refine ⟨(Line.completeUrgent_leaves ..).2.1.trans hdriver, h1, by simpa using htransfer, by simpa using hcollection, ?_⟩
    rw [h2, howed, hactive, hcollected]
    rfl
  · have hnow : ln.powerOff x = ln.completeUrgent x.line .ok 0 0 := if_pos hst
    rw [hnow]
    exact ⟨(Line.completeUrgent_leaves ..).2.1, hok _ hurgent rfl⟩
  · rw [hcycle hst]
    refine ⟨hdriver, hqueue.trans hurgent, htransfer, hcollection, rfl, ?_⟩
    rw [hactive, hcollected]
    exact howed
  · rw [hoff hst, hcycle hst]
    simp only [List.forall_mem_cons, List.not_mem_nil, false_imp_iff, implies_true, and_true]
    refine ⟨⟨?_, ?_, fun _ => ?_, ?_⟩, hrounds.trans ln.turnOff_rounds, hroutine, fun hup => ?_, htable⟩
    · simpa using hrounds.trans ln.turnOff_rounds
    · simpa using hroutine
    · obtain ⟨hempty, -⟩ | ⟨r, q, -, h⟩ := (ln.powerDown x.line).completeUrgent_cases x.line .ok 0 0
      · exact absurd ((hqueue.trans hurgent).symm.trans hempty) (List.cons_ne_nil _ _)
      · rw [h]
    · simpa using htable
    · exact hdeadline.trans (ln.turnOff_urgentDeadline hup)
  · exact if_pos hst
  · unfold Line.cycleOn
    rw [(Line.completeUrgent_leaves ..).2.1]
    rfl
  · exact (Line.completeUrgent_cons (ln := (ln.setCont .boundary).powerUp x.cfg) hurgent x.line .ok 0 0).1
  · unfold Line.cycleOn
    simp [Line.setCont, Line.powerUp]
  · exact hok _ hurgent rfl

end Sys2Proof.Machine
end

section
/-! PROOFS. What an ABORT finds and answers (R117 to R123). -/

namespace Sys2Proof.Machine

section
variable {ln : Line} {l : LineId} {a : Request}

/-- An ABORT whose tag no waiting record has is answered NOT_FOUND (R123). -/
theorem Line.abortWaiting_of_none (h : ∀ r ∈ ln.waiting, r.tag ≠ a.targetTag) :
    ln.abortWaiting l a = ln.completeUrgent l .notFound 0 (tagDetail a.targetTag) := by
  have hfind : ln.waiting.find? (fun r => r.tag == a.targetTag) = none := by
    rw [List.find?_eq_none]
    exact fun r hr => by simpa using h r hr
  unfold Line.abortWaiting
  rw [hfind]

/-- The oldest waiting record that matches leaves the queue and is answered ABORTED, then the ABORT OK (R118). -/
theorem Line.abortWaiting_of_found {before : List Request} {r : Request} {behind : List Request}
    (hwaiting : ln.waiting = before ++ r :: behind) (hbefore : ∀ q ∈ before, q.tag ≠ a.targetTag)
    (hr : r.tag = a.targetTag) :
    ln.abortWaiting l a = (({ ln with engine := { ln.engine with
        routine := if ln.engine.transfer.isSome then ln.engine.routine.take 1 ++ (before ++ behind)
                   else before ++ behind } }).produce
      (resultRecord l r .aborted 0 (tagDetail a.tag))).completeUrgent l .ok 0 (tagDetail a.targetTag) := by
  have hno : ∀ q ∈ before, ¬(q.tag == a.targetTag) = true := fun q hq => by simpa using hbefore q hq
  have hyes : (r.tag == a.targetTag) = true := by simpa using hr
  have hfind : ln.waiting.find? (fun r => r.tag == a.targetTag) = some r := by
    rw [hwaiting, List.find?_append, List.find?_eq_none.mpr hno, List.find?_cons_of_pos (p := fun q : Request => q.tag == a.targetTag) hyes]
    rfl
  have herase : ln.waiting.eraseP (fun r => r.tag == a.targetTag) = before ++ behind := by
    rw [hwaiting, List.eraseP_append_right _ hno, List.eraseP_cons_of_pos (p := fun q : Request => q.tag == a.targetTag) hyes]
  unfold Line.abortWaiting
  rw [hfind]
  dsimp only
  rw [herase]

/-- What is left and owed once a waiting record was found. -/
theorem Line.abortWaiting_answers {rest before : List Request} {r : Request} {behind : List Request}
    (hurgent : ln.engine.urgent = a :: rest) (hwaiting : ln.waiting = before ++ r :: behind)
    (hbefore : ∀ q ∈ before, q.tag ≠ a.targetTag) (hr : r.tag = a.targetTag) :
    let m := ln.abortWaiting l a
    m.engine.routine = (if ln.engine.transfer.isSome then ln.engine.routine.take 1 ++ (before ++ behind)
                        else before ++ behind) ∧
      m.engine.transfer = ln.engine.transfer ∧ m.engine.urgent = rest ∧
      m.engine.owed = ln.engine.owed ++ [⟨resultRecord l r .aborted 0 (tagDetail a.tag), .none⟩,
        ⟨resultRecord l a .ok 0 (tagDetail a.targetTag), .none⟩] := by
  rw [Line.abortWaiting_of_found hwaiting hbefore hr]
  refine ⟨by simp [Line.produce, Line.produceWith], by simp [Line.produce, Line.produceWith], ?_, ?_⟩
  · exact (Line.completeUrgent_cons (r := a) (rest := rest) (by exact hurgent) ..).1
  · rw [(Line.completeUrgent_cons (r := a) (rest := rest) (by exact hurgent) ..).2]
    simp [Line.produce, Line.produceWith]

/-- An ABORT that does not match the active record searches the waiting ones (R117). -/
theorem Line.abort_of_not_active (h : ∀ t, ln.engine.transfer = some t → t.tag ≠ a.targetTag) :
    ln.abort l a = ln.abortWaiting l a := by
  unfold Line.abort
  split
  next t ht => exact if_neg (h t ht)
  next => rfl

theorem Line.abort_of_active {t : Transfer} (ht : ln.engine.transfer = some t) (htag : t.tag = a.targetTag) :
    ln.abort l a = ln.abortStop l a t := by
  unfold Line.abort
  rw [ht]
  exact if_pos htag

end

/-- Settles O51: the active record is compared first, then the waiting ones are searched in order. -/
theorem abortSearchesTheRoutineQueue : Obligations.AbortSearchesTheRoutineQueue := by
  intro ln l a rest hurgent result
  refine ⟨fun hnone hhead => ?_, fun before r behind ht hroutine hbefore hr => ?_,
    fun t head before r behind ht htag hroutine hbefore hr => ?_, fun t r behind ht hroutine htag hclosed => ?_,
    fun t ht htag hopen hpresent hup => ?_⟩
  · have hactive : ∀ t, ln.engine.transfer = some t → t.tag ≠ a.targetTag := fun t ht => by
      obtain ⟨r, hr, htag, -⟩ := hhead t ht
      exact htag ▸ hnone r (List.mem_of_mem_head? hr)
    have hwaiting : ∀ r ∈ ln.waiting, r.tag ≠ a.targetTag := fun r hr => by
      refine hnone r ?_
      unfold Line.waiting at hr
      split at hr
      · exact List.mem_of_mem_tail hr
      · exact hr
    rw [Line.abort_of_not_active hactive, Line.abortWaiting_of_none hwaiting]
    exact ⟨by simp, Line.completeUrgent_cons hurgent ..⟩
  · have hwaiting : ln.waiting = before ++ r :: behind := by simp [Line.waiting, ht, hroutine]
    obtain ⟨h1, -, h3, h4⟩ := Line.abortWaiting_answers (l := l) hurgent hwaiting hbefore hr
    rw [Line.abort_of_not_active (by simp [ht])]
    exact ⟨h1.trans (by simp [ht]), h3, h4⟩
  · have hwaiting : ln.waiting = before ++ r :: behind := by simp [Line.waiting, ht, hroutine]
    obtain ⟨h1, h2, -, h4⟩ := Line.abortWaiting_answers (l := l) hurgent hwaiting hbefore hr
    rw [Line.abort_of_not_active (by simp [ht, htag])]
    exact ⟨h1.trans (by simp [ht, hroutine]), h2.trans ht, h4⟩
  · have hstop : ln.abortStop l a t = ln.abortActive l a := by
      refine if_neg ?_
      rintro ⟨hopen, hpresent⟩
      obtain h | h := hclosed
      · exact absurd hopen (by simp [h])
      · exact h hpresent
    have hdone : ln.completeActive l .aborted (tagDetail a.tag) =
        ln.completeRoutine l .aborted t.bytesDone (tagDetail a.tag) := by
      obtain ⟨hno, -⟩ | ⟨t', ht', h⟩ := ln.completeActive_eq l .aborted (tagDetail a.tag)
      · exact absurd (ht.symm.trans hno) nofun
      · obtain rfl := Option.some.inj (ht.symm.trans ht')
        exact h
    obtain ⟨hbehind, howed⟩ := Line.completeRoutine_cons hroutine l .aborted t.bytesDone (tagDetail a.tag)
    have hqueue : (ln.completeRoutine l .aborted t.bytesDone (tagDetail a.tag)).engine.urgent = a :: rest := by
      simpa using hurgent
    obtain ⟨h1, h2⟩ := Line.completeUrgent_cons hqueue l .ok 0 (tagDetail a.targetTag)
    rw [Line.abort_of_active ht htag, hstop]
    unfold Line.abortActive
    rw [hdone]
    refine ⟨by simp, h1, by simp, by simpa using hbehind, ?_⟩
    rw [h2, howed, List.append_assoc]
    rfl
  · rw [Line.abort_of_active ht htag]
    unfold Line.abortStop
    rw [if_pos ⟨hopen, hpresent⟩]
    obtain ⟨hbarred, -⟩ | ⟨-, -, h⟩ | ⟨-, hdown, -⟩ := Line.handOver_cases
      (ln.setTransfer { t with abortFlag := true, sessionOpen := false, deadline := none, held := none }) .abortClose
      (Frame.build (ln.entry t.node) .close t.node false [CloseReason.byte .abandoned])
    · exact absurd (hpresent.symm.trans hbarred) nofun
    · rw [h]
      exact ⟨rfl, rfl, rfl, _, rfl, rfl, rfl, rfl⟩
    · exact absurd hup hdown

end Sys2Proof.Machine
end

section
/-! PROOFS. The ends of the Ring Fetcher's accesses: a record joins its destination, a ring breaks (R86, R127, R144 to
R146). -/

namespace Sys2Proof.Machine

/-- A read that brought what was asked for is used as it is (log 14). -/
theorem exactly_of_length {n : Nat} {data : List Byte} (h : data.length = n) : exactly n data = data := by
  unfold exactly
  rw [List.take_append_of_le_length (by omega), List.take_of_length_le (by omega)]

theorem nextIndex_lt {size i n : Nat} (hsize : size ≤ n) (hn : 0 < n) : nextIndex size i < n := by
  unfold nextIndex
  split <;> omega

/-! ## The record taken -/

section
variable {s : State} {r : RingId}

/-- After the slot read the fetch is at its progress write, with the index advanced (R144). -/
theorem State.recordTaken_index (s : State) (r : RingId) (data : List Byte) :
    (s.recordTaken r data).fetcher.fetch = some { ring := r, phase := .progress } ∧
      ((s.recordTaken r data).ring r).consumer = nextIndex (s.ringSize r) (s.ring r).consumer ∧
      (s.recordTaken r data).loaded = s.loaded := by
  have hring : ((s.indexMoved r).ring r).consumer = nextIndex (s.ringSize r) (s.ring r).consumer := by
    have h := s.ring_setRing r r { s.ring r with consumer := nextIndex (s.ringSize r) (s.ring r).consumer }
    rw [if_pos rfl] at h
    exact congrArg Ring.consumer h
  cases htarget : ringTarget r with
  | some target =>
    obtain ⟨l, side⟩ := target
    rw [State.recordTaken_of_request htarget]
    exact ⟨rfl, hring, rfl⟩
  | none =>
    rw [State.recordTaken_of_supply htarget]
    obtain ⟨-, -, h⟩ | ⟨-, -, h⟩ | ⟨-, h⟩ := (s.indexMoved r).supplyTaken_cases (SupplyRecord.ofBytes (exactly 16 data)) <;>
      rw [h] <;> exact ⟨rfl, hring, rfl⟩

theorem exec_ringReadDone_of_read (hfetch : s.fetcher.fetch = some { ring := r, phase := .read }) (data : List Byte) :
    exec (.ringReadDone (.ok data)) s = .next (s.settleFrom (s.recordTaken r data)) := by
  rw [exec_ringReadDone]
  dsimp only [State.ringReadGood]
  rw [hfetch]

theorem exec_ringReadDone_of_bus_error (hfetch : s.fetcher.fetch = some { ring := r, phase := .read }) :
    exec (.ringReadDone .busError) s = .next (s.settleFrom ((s.release r).breakRing r)) := by
  rw [exec_ringReadDone]
  dsimp only [State.ringReadBad]
  rw [hfetch]

theorem exec_progressWriteDone_of_progress (hfetch : s.fetcher.fetch = some { ring := r, phase := .progress }) :
    exec (.progressWriteDone .ok) s = .next (s.settleFrom { s with fetcher := { s.fetcher with fetch := none } }) ∧
      exec (.progressWriteDone .busError) s = .next (s.settleFrom (s.breakRing r)) := by
  constructor <;> rw [exec_progressWriteDone] <;> dsimp only [State.progressEnded] <;> rw [hfetch] <;> rfl

/-- The write on the bus after a slot read: the new consumer index to the ring's progress word (R145). -/
theorem State.recordTaken_progressWrite {c : LoadedConfig} (hc : s.loaded = some c) (hsize : s.ringSize r ≤ 1024)
    (data : List Byte) :
    (s.settleFrom (s.recordTaken r data)).progressWrite = some
      (c.progress + BitVec.ofNat 64 (2 * r.val), leBytes 2 (nextIndex (s.ringSize r) (s.ring r).consumer)) := by
  obtain ⟨hfetch, hindex, hloaded⟩ := s.recordTaken_index r data
  obtain ⟨hfetcher, hrings, hkept⟩ := State.settleFrom_fetch s hfetch
  have hring : (s.settleFrom (s.recordTaken r data)).ring r = (s.recordTaken r data).ring r := by
    rw [State.ring, hrings]; rfl
  rw [State.progressWrite_of_progress (hkept.trans (hloaded.trans hc)) (hfetcher ▸ hfetch), hring, hindex, progressWord,
    Nat.mod_eq_of_lt (nextIndex_lt hsize (by decide))]

end

/-- Settles O52: the record joins the queue of its ring, and the fetch goes on to its progress write. -/
theorem requestReadJoinsItsQueue : Obligations.RequestReadJoinsItsQueue := by
  intro s r l data hlength hfetch ring i moved g
  have hexec := exec_ringReadDone_of_read hfetch data
  have hdata : exactly 48 data = data := exactly_of_length hlength
  refine ⟨fun hr => ?_, fun hr => ?_, fun c hc hsize => ⟨_, hexec, State.recordTaken_progressWrite hc hsize data⟩⟩
  · have htarget : ringTarget r = some (l, .urgent) := by
      rw [ringTarget_eq_some_iff]; exact Fin.ext hr
    rw [hexec, State.recordTaken_of_request htarget, hdata]
    rfl
  · have htarget : ringTarget r = some (l, .routine) := by
      rw [ringTarget_eq_some_iff]; exact Fin.ext hr
    rw [hexec, State.recordTaken_of_request htarget, hdata]
    rfl

/-! ## The supply ring -/

theorem SupplyRecord.qualifies_iff (b : SupplyRecord) : b.qualifies = true ↔
    256 ≤ b.size.toNat ∧ b.size.toNat ≤ 4096 ∧ b.size.toNat % 4 = 0 ∧ b.addr.toNat % 4 = 0 ∧
      b.addr.toNat + b.size.toNat ≤ 2 ^ 64 := by
  simp only [SupplyRecord.qualifies, fitsTop, Bool.and_eq_true, decide_eq_true_eq, beq_iff_eq, and_assoc]

/-- Settles O53: the three ways of a supply record taken, and the progress write that begins in each. -/
theorem supplyReadJoinsTheCache : Obligations.SupplyReadJoinsTheCache := by
  intro s data hlength hfetch ring i moved b back good
  have hexec := exec_ringReadDone_of_read hfetch data
  have htaken : s.recordTaken supplyRing data = (s.indexMoved supplyRing).supplyTaken b := by
    rw [State.recordTaken_of_supply ((ringTarget_eq_none_iff _).mpr rfl), exactly_of_length hlength]
  have hgood : b.qualifies = true ↔ good := b.qualifies_iff
  have hcases := (s.indexMoved supplyRing).supplyTaken_cases b
  refine ⟨fun h hd => ?_, fun h hd => ?_, fun h => ?_,
    fun c hc hsize => ⟨_, hexec, State.recordTaken_progressWrite hc hsize data⟩⟩
  · obtain ⟨-, -, heq⟩ | ⟨-, hd', -⟩ | ⟨hbad, -⟩ := hcases
    · rw [hexec, htaken, heq]; rfl
    · exact absurd hd' hd
    · exact absurd (hgood.mpr h) (by simp [hbad])
  · obtain ⟨-, hd', -⟩ | ⟨-, -, heq⟩ | ⟨hbad, -⟩ := hcases
    · exact absurd hd hd'
    · rw [hexec, htaken, heq]; rfl
    · exact absurd (hgood.mpr h) (by simp [hbad])
  · obtain ⟨hyes, -⟩ | ⟨hyes, -⟩ | ⟨-, heq⟩ := hcases
    · exact absurd (hgood.mp hyes) h
    · exact absurd (hgood.mp hyes) h
    · rw [hexec, htaken, heq]; rfl

/-! ## The end of a fetch -/

/-- Releasing a place changes neither the rings, nor the records owed, nor a queue (R146). -/
theorem State.release_leaves (s : State) (r : RingId) :
    (s.release r).rings = s.rings ∧ (s.release r).serviceOwed = s.serviceOwed ∧
      ∀ l, ((s.release r).line l).engine.urgent = (s.line l).engine.urgent ∧
        ((s.release r).line l).engine.routine = (s.line l).engine.routine := by
  obtain ⟨m, side, -, h⟩ | ⟨-, h⟩ := s.release_cases r
  · rw [h]
    refine ⟨rfl, rfl, fun l => ?_⟩
    rw [State.line_setLine]
    split
    next hl => subst hl; cases side <;> exact ⟨rfl, rfl⟩
    next => exact ⟨rfl, rfl⟩
  · rw [h]
    exact ⟨rfl, rfl, fun _ => ⟨rfl, rfl⟩⟩

/-- The rings after a bus error in a fetch (R146). -/
theorem State.breakRing_ring (s : State) (r q : RingId) :
    (s.breakRing r).ring q = if q = r then { s.ring r with broken := true } else s.ring q :=
  s.ring_setRing r q { s.ring r with broken := true }

/-- What follows a bus error in a fetch leaves the rings as the error left them. -/
theorem State.settleFrom_rings (before s : State) (q : RingId) : (State.settleFrom before s).ring q = s.ring q := by
  rw [State.ring, (State.settleFrom_follows before s).kept]
  rfl

/-- Settles O54: a progress write that ends well ends the fetch, every failed access breaks the ring. -/
theorem fetchEndsOrBreaksItsRing : Obligations.FetchEndsOrBreaksItsRing := by
  intro s r fault
  refine ⟨fun hfetch => ?_, fun hfetch => ?_⟩
  · obtain ⟨hgood, hbad⟩ := exec_progressWriteDone_of_progress hfetch
    refine ⟨hgood, hbad, _, hbad, ?_, fun q hq => ?_, ?_⟩
    · rw [State.settleFrom_rings, State.breakRing_ring, if_pos rfl]
    · rw [State.settleFrom_rings, State.breakRing_ring, if_neg hq]
    · refine State.settleFrom_servicePosts s (List.mem_append_right _ ?_)
      exact List.mem_append_right _ (List.mem_singleton.mpr rfl)
  · obtain ⟨hrings, howed, hqueues⟩ := s.release_leaves r
    have hring : ∀ q, (s.release r).ring q = s.ring q := fun q => congrArg (·.get q) hrings
    refine ⟨(s.release r).breakRing r, exec_ringReadDone_of_bus_error hfetch, ?_, fun q hq => ?_, rfl, ?_,
      fun l side => ?_, ?_, hqueues⟩
    · rw [State.breakRing_ring, if_pos rfl, hring]
    · rw [State.breakRing_ring, if_neg hq, hring]
    · rw [← howed]
      exact congrArg (fun k => (s.release r).serviceOwed ++ [ringFaultRecord r k]) (congrArg Ring.consumer (hring r))
    · exact s.release_reserved r l side
    · exact s.release_cacheReserved r

end Sys2Proof.Machine
end

section
/-! PROOFS. The ends of an engine's host accesses: what is sent, counted or answered then (R98 to R111, R132 to R134). -/

namespace Sys2Proof.Machine

/-! ## The end of an access -/

/-- A record owed on a line is on its way once the line is left to what follows (R93, R150). -/
theorem State.settleFrom_posts_owed (before s : State) {l : LineId} {ln : Line} {c : Completion} {e : PlaceEffect}
    (h : ⟨c, e⟩ ∈ ln.engine.owed) : (State.settleFrom before (s.setLine l ln)).posts l c := by
  refine State.settleFrom_posts before ?_
  rw [State.line_setLine_self]
  exact List.mem_append_right _ (List.mem_map.mpr ⟨_, h, rfl⟩)

section
variable {s : State} {l : LineId}

/-- The access of an engine that is EXCHANGING is in flight (R98). -/
theorem State.accessOf_of_exchanging {a : HostAccess} (hstate : (s.line l).engine.state = .exchanging)
    (haccess : (s.line l).engine.access = some a) : s.accessOf l = some a :=
  (if_pos hstate).trans haccess

theorem exec_segmentReadDone_of_access {addr : HostAddr} {n : Nat}
    (haccess : s.accessOf l = some (.segmentRead addr n)) :
    (∀ data, exec (.segmentReadDone l (.ok data)) s = .next (s.finish l ((s.line l).segmentRead l n (some data)))) ∧
      exec (.segmentReadDone l .busError) s = .next (s.finish l ((s.line l).segmentRead l n none)) := by
  refine ⟨fun data => ?_, ?_⟩ <;> rw [exec_segmentReadDone] <;> dsimp only [State.segmentReadEnded] <;> rw [haccess]

theorem exec_responseWriteDone_of_access {side : QueueSide} {addr : HostAddr} {data : List Byte}
    (haccess : s.accessOf l = some (.responseWrite side addr data)) :
    exec (.responseWriteDone l .ok) s = .next (s.finish l ((s.line l).responseWritten l side data.length true)) ∧
      exec (.responseWriteDone l .busError) s =
        .next (s.finish l ((s.line l).responseWritten l side data.length false)) := by
  constructor <;> rw [exec_responseWriteDone] <;> dsimp only [State.responseWriteEnded] <;> rw [haccess]

theorem exec_fetchSegmentWriteDone_of_access {addr : HostAddr} {data : List Byte} {after : FetchAfter}
    (haccess : s.accessOf l = some (.fetchWrite addr data after)) :
    exec (.fetchSegmentWriteDone l .ok) s = .next (s.finish l ((s.line l).fetchWritten l data.length after true)) ∧
      exec (.fetchSegmentWriteDone l .busError) s =
        .next (s.finish l ((s.line l).fetchWritten l data.length after false)) := by
  constructor <;> rw [exec_fetchSegmentWriteDone] <;> dsimp only [State.fetchWriteEnded] <;> rw [haccess]

theorem exec_collectSegmentWriteDone_of_access {addr : HostAddr} {data : List Byte} {after : CollectAfter}
    (haccess : s.accessOf l = some (.collectWrite addr data after)) :
    exec (.collectSegmentWriteDone l .ok) s = .next (s.finish l ((s.line l).collectWritten l data.length after true)) ∧
      exec (.collectSegmentWriteDone l .busError) s =
        .next (s.finish l ((s.line l).collectWritten l data.length after false)) := by
  constructor <;> rw [exec_collectSegmentWriteDone] <;> dsimp only [State.collectWriteEnded] <;> rw [haccess]

end

/-! ## Records that complete -/

section
variable {ln : Line} {r : Request} {rest : List Request}

theorem Line.completeUrgent_of_cons (h : ln.engine.urgent = r :: rest) (l : LineId) (code : Code) (count : Nat)
    (detail : BitVec 32) :
    ln.completeUrgent l code count detail = { ln with engine := { ln.engine with
      urgent := rest, urgentBusy := 0, urgentDeadline := none, cutOff := false,
      owed := ln.engine.owed ++ [⟨resultRecord l r code count detail, .none⟩] } } := by
  obtain ⟨hnil, -⟩ | ⟨r', rest', hcons, heq⟩ := ln.completeUrgent_cases l code count detail
  · simp [h] at hnil
  · obtain ⟨rfl, rfl⟩ := List.cons.inj (h.symm.trans hcons)
    exact heq

theorem Line.completeRoutine_of_cons (h : ln.engine.routine = r :: rest) (l : LineId) (code : Code) (count : Nat)
    (detail : BitVec 32) :
    ln.completeRoutine l code count detail = { ln with engine := { ln.engine with
      routine := rest, transfer := none,
      owed := ln.engine.owed ++ [⟨resultRecord l r code count detail, .none⟩] } } := by
  obtain ⟨hnil, -⟩ | ⟨r', rest', hcons, heq⟩ := ln.completeRoutine_cases l code count detail
  · simp [h] at hnil
  · obtain ⟨rfl, rfl⟩ := List.cons.inj (h.symm.trans hcons)
    exact heq

theorem Line.completeActive_of_cons (h : ln.engine.routine = r :: rest) {t : Transfer} (ht : ln.engine.transfer = some t)
    (l : LineId) (code : Code) (detail : BitVec 32) :
    ln.completeActive l code detail = { ln with engine := { ln.engine with
      routine := rest, transfer := none,
      owed := ln.engine.owed ++ [⟨resultRecord l r code t.bytesDone detail, .none⟩] } } := by
  obtain ⟨hnone, -⟩ | ⟨t', ht', heq⟩ := ln.completeActive_eq l code detail
  · exact absurd (ht.symm.trans hnone) nofun
  · obtain rfl := Option.some.inj (ht.symm.trans ht')
    rw [heq, Line.completeRoutine_of_cons h]

/-- An exchange handed over on a line that is UP to an entry that is not BARRED begins its first attempt (R10). -/
theorem Line.handOver_of_up {f : Frame} (hup : ln.driver.state = .up) (hentry : (ln.entry f.node).state ≠ .barred)
    (p : Purpose) :
    ln.handOver p f = { ln with
      xcvr := { state := .sending, frame := some f, attempts := 0, garbled := 0, window := none },
      engine := { ln.engine with state := .exchanging, purpose := some p, access := none, cont := .boundary } } := by
  obtain ⟨hbarred, -⟩ | ⟨-, -, h⟩ | ⟨-, hdown, -⟩ := ln.handOver_cases p f
  · exact absurd hbarred hentry
  · exact h
  · exact absurd hup hdown

end

/-! ## SEND -/

/-- Settles O56: the head of the queue completes, and its RESULT is among the records owed. -/
theorem responseWriteCompletesTheSend : Obligations.ResponseWriteCompletesTheSend := by
  intro s l side addr data r rest ln hstate haccess hqueue result after
  obtain ⟨hok, hbad⟩ := exec_responseWriteDone_of_access (State.accessOf_of_exchanging hstate haccess)
  have hwritten : ∀ good, s.finish l (ln.responseWritten l side data.length good) =
      after (if good then .ok else .busError) (if good then data.length else 0) := fun good => by
    cases side with
    | urgent =>
      dsimp only [Line.responseWritten]
      rw [Line.completeUrgent_of_cons (ln := ln.endWork) hqueue]
      exact State.finish_of_not_exchanging s l _ nofun
    | routine =>
      dsimp only [Line.responseWritten]
      rw [Line.completeRoutine_of_cons (ln := ln.endWork) hqueue]
      exact State.finish_of_not_exchanging s l _ nofun
  have hposts : ∀ code count, (after code count).posts l (result code count) := fun code count => by
    refine State.settleFrom_posts_owed s s (e := .none) ?_
    cases side <;> exact List.mem_append_right _ (List.mem_singleton.mpr rfl)
  exact ⟨⟨hok.trans (congrArg _ (hwritten true)), hposts _ _⟩, hbad.trans (congrArg _ (hwritten false)), hposts _ _⟩

/-! ## STORE -/

/-- Settles O55: with data the WDATA is handed over, with a bus error the STORE ends at once or by a closing exchange. -/
theorem segmentReadSendsOrEndsTheStore : Obligations.SegmentReadSendsOrEndsTheStore := by
  intro s l r rest n addr data ln hstate haccess hroutine hnode sendable result ended sent
  obtain ⟨hok, hbad⟩ := exec_segmentReadDone_of_access (State.accessOf_of_exchanging hstate haccess)
  have hposts : ∀ count, (ended count).posts l (result count) := fun count =>
    State.settleFrom_posts_owed s s (e := .none) (List.mem_append_right _ (List.mem_singleton.mpr rfl))
  have hsent : ∀ (t : Transfer) (k : Nat), sendable → t.node = n → t.next = .wdata k →
      s.finish l (ln.endWork.sendStep t r) =
        sent t (k == 1) ((if k = 1 then leBytes 2 t.length else []) ++ t.held.getD []) := fun t k hsend hn hnext => by
    have hframe : stepFrame (ln.entry t.node) t r =
        { kind := .wdata, node := n, toggle := (ln.entry n).sendToggle, first := k == 1,
          payload := (if k = 1 then leBytes 2 t.length else []) ++ t.held.getD [] } := by
      unfold stepFrame
      rw [hnext, hn]
      by_cases hk : k = 1 <;> simp [hk, Frame.build, FrameKind.carriesSend, FrameKind.carriesRecv]
    have hline : ln.endWork.sendStep t r = (ln.endWork.setTransfer t).handOver .step (stepFrame (ln.entry t.node) t r) :=
      rfl
    rw [hline, hframe, Line.handOver_of_up (by exact hsend.1) (by exact hsend.2)]
    exact State.finish_of_exchanging s l _ rfl
  refine ⟨fun hsend hnone => ?_, fun t k hsend ht hn hnext hk => ?_, fun hnone => ⟨?_, hposts 0⟩,
    fun c hc hclosed => ⟨?_, hposts c.bytesDone⟩, fun c hc hopen => ?_⟩
  · have hread : ln.segmentRead l data.length (some data) =
        ln.endWork.sendStep { Transfer.begin r n .store (.wdata 1) with held := some (exactly data.length data) } r := by
      unfold Line.segmentRead
      rw [hroutine, hnone]
      dsimp only
      rw [hnode]
    rw [hok, hread, hsent _ 1 hsend rfl rfl, exactly_of_length rfl]
    rfl
  · have hread : ln.segmentRead l data.length (some data) =
        ln.endWork.sendStep { t with held := some (exactly data.length data) } r := by
      unfold Line.segmentRead
      rw [hroutine, ht]
    rw [hok, hread, hsent { t with held := some (exactly data.length data) } k hsend hn hnext, exactly_of_length rfl,
      if_neg hk, beq_false_of_ne hk]
    rfl
  · have hread : ln.segmentRead l data.length none = ln.endWork.completeRoutine l .busError 0 0 := by
      unfold Line.segmentRead
      rw [hroutine, hnone]
    rw [hbad, hread, Line.completeRoutine_of_cons (ln := ln.endWork) hroutine]
    exact congrArg Host.Outcome.next (State.finish_of_not_exchanging s l _ nofun)
  · have hread : ln.segmentRead l data.length none = ln.endWork.completeActive l .busError 0 := by
      unfold Line.segmentRead
      rw [hroutine, hc]
      exact if_neg (by simp [hclosed])
    rw [hbad, hread, Line.completeActive_of_cons (ln := ln.endWork) hroutine hc]
    exact congrArg Host.Outcome.next (State.finish_of_not_exchanging s l _ nofun)
  · have hread : ln.segmentRead l data.length none = ln.endWork.setCont (.closing .abandoned .busError) := by
      unfold Line.segmentRead
      rw [hroutine, hc]
      exact if_pos hopen
    rw [hbad, hread]
    exact congrArg Host.Outcome.next (State.finish_of_not_exchanging s l _ nofun)

end Sys2Proof.Machine
end

section
/-! PROOFS. The ends of the writes of a FETCH and of a collection, and the judgement of the segment that they write (R66,
R107 to R109, R132 to R134). -/

namespace Sys2Proof.Machine

/-! ## FETCH -/

/-- The judgement of a FETCH segment of `n` bytes against the bytes still owed, case by case (R107, R108). -/
theorem fetchFit_cases (owed n : Nat) :
    (n = 32 → 32 < owed → fetchFit owed n false = (n, .more)) ∧
      (n = owed → fetchFit owed n true = (n, .last)) ∧
      (n = 32 → ¬32 < owed → fetchFit owed n false = (owed, .mismatchOpen)) ∧
      (n < owed → fetchFit owed n true = (n, .mismatchEnded)) ∧
      (owed < n → fetchFit owed n true = (owed, .mismatchEnded)) := by
  unfold fetchFit
  refine ⟨fun hn ho => ?_, fun h => ?_, fun hn ho => ?_, fun h => ?_, fun h => ?_⟩
  · simp [hn, ho]
  · simp [h]
  · simp [hn, ho]; omega
  · simp [Nat.ne_of_lt h, Nat.min_eq_left h.le]
  · simp [Nat.ne_of_gt h, Nat.min_eq_right h.le]

/-- Settles O57: a segment that leaves the FETCH active keeps its context, every other ends the record. -/
theorem fetchWriteCountsItsBytes : Obligations.FetchWriteCountsItsBytes := by
  intro s l r rest c addr data after ln hstate haccess hroutine htransfer counted goesOn result ended
  obtain ⟨hok, hbad⟩ := exec_fetchSegmentWriteDone_of_access (State.accessOf_of_exchanging hstate haccess)
  have hposts : ∀ code count, (ended code count).posts l (result code count) := fun code count =>
    State.settleFrom_posts_owed s s (e := .none) (List.mem_append_right _ (List.mem_singleton.mpr rfl))
  have hended : ∀ (t : Transfer) (code : Code),
      s.finish l (((ln.endWork.setTransfer t).setTransfer { t with sessionOpen := false }).completeActive l code 0) =
        ended code t.bytesDone := fun t code => by
    rw [Line.completeActive_of_cons (ln := (ln.endWork.setTransfer t).setTransfer { t with sessionOpen := false })
      (t := { t with sessionOpen := false }) hroutine rfl]
    exact State.finish_of_not_exchanging s l _ nofun
  have hgoesOn : ∀ (t : Transfer) (k : Cont),
      s.finish l ((ln.endWork.setTransfer t).setCont k) = goesOn t k := fun t k =>
    State.finish_of_not_exchanging s l _ nofun
  have hwritten : ∀ (after : FetchAfter) good, s.finish l (ln.fetchWritten l data.length after good) =
      let t := if good then counted else c
      match after with
      | .more => if good then goesOn t .boundary else goesOn t (.closing .abandoned .busError)
      | .last => ended (if good then .ok else .busError) t.bytesDone
      | .mismatchOpen => goesOn t (.closing .abandoned (if good then .garbled else .busError))
      | .mismatchEnded => ended (if good then .garbled else .busError) t.bytesDone := fun after good => by
    unfold Line.fetchWritten
    rw [htransfer]
    cases after with
    | more =>
      cases good with
      | false => exact hgoesOn c _
      | true => exact hgoesOn counted .boundary
    | last => exact hended _ _
    | mismatchOpen => exact hgoesOn _ _
    | mismatchEnded => exact hended _ _
  refine ⟨fun h => ?_, fun h => ?_, fun h => ?_, fun reply => ?_⟩
  · subst h
    exact ⟨hok.trans (congrArg _ (hwritten _ true)), hbad.trans (congrArg _ (hwritten _ false))⟩
  · subst h
    exact ⟨hok.trans (congrArg _ (hwritten _ true)), hbad.trans (congrArg _ (hwritten _ false))⟩
  · obtain rfl | rfl := h <;>
      exact ⟨⟨hok.trans (congrArg _ (hwritten _ true)), hposts _ _⟩, hbad.trans (congrArg _ (hwritten _ false)), hposts _ _⟩
  · intro o n judged
    have hjudged : ∀ written what, fetchFit o n reply.last = (written, what) → judged written what :=
      fun written what hfit => by
        have hack : ln.rdataAck c reply = ln.setCont (.access (.fetchWrite (bufferAt c.hostAddr c.bytesDone)
            (reply.payload.take (fetchFit o n reply.last).1) (fetchFit o n reply.last).2)) := rfl
        dsimp only [judged]
        rw [hack, hfit]
        rfl
    obtain ⟨hmore, hlast, hover, hshort, hlong⟩ := fetchFit_cases o n
    exact ⟨fun hl hn ho => hjudged _ _ (hl ▸ hmore hn ho), fun hl hn => hjudged _ _ (hl ▸ hlast hn),
      fun hl hn ho => hjudged _ _ (hl ▸ hover hn ho), fun hl hn => hjudged _ _ (hl ▸ hshort hn),
      fun hl hn => hjudged _ _ (hl ▸ hlong hn)⟩

/-! ## Collections -/

/-- The judgement of a collection's segment of `n` bytes against the bytes still owed, case by case (R132, R133). -/
theorem collectFit_cases (owed n : Nat) :
    (n = 32 → 32 < owed → collectFit owed n false = (n, .more)) ∧
      (n = owed → collectFit owed n true = (n, .last)) ∧
      (n = 32 → ¬32 < owed → collectFit owed n false = (owed, .mismatch)) ∧
      (n < owed → collectFit owed n true = (n, .mismatch)) ∧
      (owed < n → collectFit owed n true = (owed, .mismatch)) := by
  unfold collectFit
  refine ⟨fun hn ho => ?_, fun h => ?_, fun hn ho => ?_, fun h => ?_, fun h => ?_⟩
  · simp [hn, ho]
  · simp [h]
  · simp [hn, ho]; omega
  · simp [Nat.ne_of_lt h, Nat.min_eq_left h.le]
  · simp [Nat.ne_of_gt h, Nat.min_eq_right h.le]

/-- A collection that holds its buffer ends with its ARRIVAL owed, and the round goes on (R133 to R137). -/
theorem Line.endCollection_of_buffer {ln : Line} {k : Collection} {b : SupplyRecord}
    (hk : ln.engine.collection = some k) (hb : k.buffer = some b) (l : LineId) (code : Code) :
    ln.endCollection l code = { ln with engine := { ln.engine with
      collection := none, cont := .advance,
      owed := ln.engine.owed ++
        [⟨arrivalRecord l (BitVec.ofNat 8 (Node.address k.node)) code b.id k.bytesWritten, .none⟩] } } := by
  unfold Line.endCollection
  obtain ⟨hnone, -⟩ | ⟨k', hk', hnone, -⟩ | ⟨k', b', hk', hb', h⟩ := ln.returnCollection_cases l code
  · exact absurd (hk.symm.trans hnone) nofun
  · obtain rfl := Option.some.inj (hk.symm.trans hk')
    exact absurd (hb.symm.trans hnone) nofun
  · obtain rfl := Option.some.inj (hk.symm.trans hk')
    obtain rfl := Option.some.inj (hb.symm.trans hb')
    rw [h]
    rfl

/-- Settles O58: a write that went well counts its bytes before the judgement is followed. -/
theorem collectWriteCountsItsBytes : Obligations.CollectWriteCountsItsBytes := by
  intro s l k b addr data after ln hstate haccess hcollection hbuffer counted arrival ended
  obtain ⟨hok, hbad⟩ := exec_collectSegmentWriteDone_of_access (State.accessOf_of_exchanging hstate haccess)
  have hposts : ∀ code count, (ended code count).posts l (arrival code count) := fun code count =>
    State.settleFrom_posts_owed s s (e := .none) (List.mem_append_right _ (List.mem_singleton.mpr rfl))
  obtain ⟨held, hheld⟩ : ∃ m, { ln.endWork with engine := { ln.endWork.engine with collection := some counted } } = m :=
    ⟨_, rfl⟩
  have hgood : ∀ after : CollectAfter, ln.collectWritten l data.length after true =
      match after with
      | .more => held
      | .last => if (held.entry k.node).state = .present then held.sendCollected counted else held.endCollection l .noNode
      | .mismatch => held.endCollection l .garbled := fun after => by
    rw [← hheld]
    unfold Line.collectWritten
    rw [hcollection]
    cases after <;> rfl
  have hfailed : ln.collectWritten l data.length after false = ln.endWork.endCollection l .busError := by
    unfold Line.collectWritten
    rw [hcollection]
    rfl
  refine ⟨fun h => ?_, fun h hup hpresent => ?_, fun h => ⟨?_, hposts _ _⟩, ⟨?_, hposts _ _⟩, ?_⟩
  · subst h
    rw [hok, hgood, ← hheld]
    exact congrArg Host.Outcome.next (State.finish_of_not_exchanging s l _ nofun)
  · subst h
    have hentry : (held.entry k.node).state = .present := by rw [← hheld]; exact hpresent
    have hclose : held.sendCollected counted = { ln with
        xcvr := { state := .sending, attempts := 0, garbled := 0, window := none,
                  frame := some { kind := .close, node := k.node, toggle := false, first := false, payload := [3] } },
        engine := { ln.engine with
          state := .exchanging, purpose := some .closeCollected, access := none, cont := .boundary,
          collection := some { counted with next := .close } } } := by
      rw [← hheld]
      unfold Line.sendCollected
      rw [Line.handOver_of_up (by exact hup) (by
        change (ln.entry k.node).state ≠ .barred
        rw [hpresent]
        nofun)]
      rfl
    rw [hok, hgood]
    dsimp only
    rw [if_pos hentry, hclose]
    exact congrArg Host.Outcome.next (State.finish_of_exchanging s l _ rfl)
  · subst h
    rw [hok, hgood]
    dsimp only
    rw [← hheld, Line.endCollection_of_buffer (k := counted) (b := b) rfl hbuffer]
    exact congrArg Host.Outcome.next (State.finish_of_not_exchanging s l _ nofun)
  · rw [hbad, hfailed, Line.endCollection_of_buffer (ln := ln.endWork) hcollection hbuffer]
    exact congrArg Host.Outcome.next (State.finish_of_not_exchanging s l _ nofun)
  · intro x reply attempts garbled hack o n judged
    have hjudged : ∀ written what, collectFit o n reply.last = (written, what) → judged written what :=
      fun written what hfit => by
        have hend : ln.collectEnd x { reply := some reply, attempts := attempts, garbled := garbled } =
            ln.setCont (.access (.collectWrite (bufferAt b.addr k.bytesWritten)
              (reply.payload.take (collectFit o n reply.last).1) (collectFit o n reply.last).2)) := by
          unfold Line.collectEnd
          rw [hcollection]
          dsimp only
          rw [hack]
          dsimp only
          rw [hbuffer]
        dsimp only [judged]
        rw [hend, hfit]
        rfl
    obtain ⟨hmore, hlast, hover, hshort, hlong⟩ := collectFit_cases o n
    exact ⟨fun hl hn ho => hjudged _ _ (hl ▸ hmore hn ho), fun hl hn => hjudged _ _ (hl ▸ hlast hn),
      fun hl hn ho => hjudged _ _ (hl ▸ hover hn ho), fun hl hn => hjudged _ _ (hl ▸ hshort hn),
      fun hl hn => hjudged _ _ (hl ▸ hlong hn)⟩

end Sys2Proof.Machine
end

section
/-! PROOFS. The end of the completion write: the record counted and announced, or the device FAULTED (R147, R151, R154,
R156, R167). -/

namespace Sys2Proof.Machine

/-! ## What follows leaves the announcement alone -/

/-- The causes, the unannounced count and the holdoff are the same. -/
def State.SameAnnouncement (s t : State) : Prop :=
  t.intStatus = s.intStatus ∧ t.writer.unannounced = s.writer.unannounced ∧ t.writer.holdoff = s.writer.holdoff

/-- Only the entry to HALTED announces, and only what was unannounced (R154, R166). -/
theorem State.settleFrom_announcement (before s : State) :
    ((State.settleFrom before s).device = .halted ∨ s.SameAnnouncement (State.settleFrom before s)) ∧
      (s.writer.unannounced = 0 → (State.settleFrom before s).writer.unannounced = 0 ∧
        (State.settleFrom before s).writer.holdoff = s.writer.holdoff) := by
  refine State.settleFrom_keeps (P := fun u => (u.device = .halted ∨ s.SameAnnouncement u) ∧
      (s.writer.unannounced = 0 → u.writer.unannounced = 0 ∧ u.writer.holdoff = s.writer.holdoff)) before
    (fun u t hu ht => ?_) (fun u t l hu ht => ?_) (fun u t hu ht => ?_) (fun u t fresh hu ht => ?_) (fun u hu _ => ?_)
    (fun u hu => hu) s ⟨.inr ⟨rfl, rfl, rfl⟩, fun h => ⟨h, rfl⟩⟩
  · obtain ⟨-, hcauses, hdevice, -, hwriter, -⟩ := State.fetchBegin_leaves ht
    unfold State.SameAnnouncement
    rw [hdevice, hcauses, hwriter]
    exact hu
  · obtain ⟨ln, cache, -, rfl⟩ := State.engineMove_cases ht
    exact hu
  · obtain ⟨c, rest, -, -, rfl⟩ := State.servicePlace_cases ht
    exact hu
  · obtain ⟨-, k, c, n, v, rfl, ⟨l, -, rfl⟩ | ⟨-, rfl⟩⟩ := State.take_source ht <;> exact hu
  · rw [State.enterHalted_eq]
    refine ⟨.inl rfl, fun h => ?_⟩
    obtain ⟨hzero, hholdoff⟩ := hu.2 h
    exact ⟨by simp [hzero], by simpa [hzero] using hholdoff⟩

/-- A cause bit that is set stays set through what follows. -/
theorem State.settleFrom_cause (before s : State) {i : Nat} (h : s.intStatus.getLsbD i = true) :
    (State.settleFrom before s).intStatus.getLsbD i = true := by
  have hand := congrArg (·.getLsbD i) (State.settleFrom_follows before s).causes
  simpa [h] using hand

/-- The record written, counted and announced if due (R151, R154). -/
theorem exec_completionWriteDone_of_write {s : State} (hserving : s.device = .running ∨ s.device = .stopping)
    (hwrite : s.writer.write.isSome) :
    exec (.completionWriteDone .ok) s = .next (s.settleFrom s.countWritten.announceDue) ∧
      exec (.completionWriteDone .busError) s = .next s.enterFaulted := by
  constructor <;> rw [exec_completionWriteDone] <;> dsimp only [State.completionEnded] <;>
    rw [if_pos ⟨s.serving_iff.mpr hserving, hwrite⟩] <;> rfl

/-- Settles O59: the counted record is announced when it is due, and what follows announces only on entry to HALTED. -/
theorem writtenRecordIsCounted : Obligations.WrittenRecordIsCounted := by
  intro s hserving hwrite due counted
  obtain ⟨hexec, -⟩ := exec_completionWriteDone_of_write hserving hwrite
  have hdue : due → s.countWritten.announceDue = s.countWritten.announce := fun h => if_pos h
  have hnot : ¬due → s.countWritten.announceDue = s.countWritten := fun h => if_neg h
  have hkept : s.countWritten.announceDue.writer.producer = s.writer.producer + 1 ∧
      s.countWritten.announceDue.writer.consumed = s.writer.consumed ∧
      s.countWritten.announceDue.writer.phase = counted.phase ∧ s.countWritten.announceDue.rings = s.rings ∧
      s.countWritten.announceDue.complConsumed = s.complConsumed ∧ s.countWritten.announceDue.loaded = s.loaded := by
    by_cases h : due
    · rw [hdue h]; exact ⟨rfl, rfl, rfl, rfl, rfl, rfl⟩
    · rw [hnot h]; exact ⟨rfl, rfl, rfl, rfl, rfl, rfl⟩
  obtain ⟨hproducer, hconsumed, hphase, hrings, hindex, hloaded⟩ := hkept
  obtain ⟨-, hloaded', -, -, -, hindex', -, -, -, hrings', -, -, hproducer', hconsumed', hphase'⟩ :=
    (State.settleFrom_follows s s.countWritten.announceDue).leaves
  obtain ⟨hsame, hzero⟩ := State.settleFrom_announcement s s.countWritten.announceDue
  refine ⟨fun h => ?_, fun h => ?_, _, hexec, hproducer'.trans hproducer, hconsumed'.trans hconsumed,
    hphase'.trans hphase, fun h => ?_, fun h hd => ?_, hrings'.trans hrings, hindex'.trans hindex,
    hloaded'.trans hloaded⟩
  · rw [hexec, hdue h]
    rfl
  · rw [hexec, hnot h]
    rfl
  · rw [hdue h] at hzero ⊢
    refine ⟨State.settleFrom_cause s _ ?_, hzero rfl⟩
    simp [causeCompletion]
  · rw [hnot h] at hsame hd ⊢
    obtain hhalted | hsame := hsame
    · exact absurd hhalted hd
    · exact hsame

/-- Settles O60: the model's entry to FAULTED, written out. -/
theorem failedCompletionWriteFaults : Obligations.FailedCompletionWriteFaults := by
  intro s hserving hwrite
  exact ⟨_, (exec_completionWriteDone_of_write hserving hwrite).2, rfl, s.line_mapLines Line.freeze⟩

end Sys2Proof.Machine
end

section
/-! PROOFS. The bytes of a completion record, of a reply and of a master frame read back (R5, R7 to R9, R22, R140, R149,
R151). -/

namespace Sys2Proof.Machine

/-! ## Little-endian fields -/

theorem leBytes_length (n v : Nat) : (leBytes n v).length = n := by
  induction n generalizing v with
  | zero => rfl
  | succ n ih => simp [leBytes, ih]

theorem leNat_leBytes {n v : Nat} (h : v < 256 ^ n) : leNat (leBytes n v) = v := by
  induction n generalizing v with
  | zero => simp only [Nat.pow_zero, Nat.lt_one_iff] at h; subst h; rfl
  | succ n ih =>
    have hv : v / 256 < 256 ^ n := by
      rw [Nat.div_lt_iff_lt_mul (by decide)]
      exact h
    simp only [leBytes, leNat, ih hv, BitVec.toNat_ofNat]
    omega

/-- A field that stands in the bytes between others is read back (chapter 11). -/
theorem field_append (before : List Byte) {n v : Nat} (behind : List Byte) (h : v < 256 ^ n) :
    field (before ++ leBytes n v ++ behind) before.length n = v := by
  unfold field
  rw [List.append_assoc, List.drop_left, List.take_append_of_le_length (leBytes_length n v).ge,
    List.take_of_length_le (leBytes_length n v).le, leNat_leBytes h]

/-! ## The completion record -/

/-- The first byte of a completion record, field by field (11 section 11.3). -/
theorem completionHeader_fields (phase : Bool) (type : CompletionType) (line : LineId) :
    let b := BitVec.ofNat 8 (phase.toNat + 2 * type.number + 8 * line.val)
    b.getLsbD 0 = phase ∧ (b.extractLsb' 1 2).toNat = type.number ∧ (b.extractLsb' 3 2).toNat = line.val ∧
      b.extractLsb' 5 3 = 0#3 := by
  cases phase <;> cases type <;> revert line <;> decide

/-- Settles O41: the header byte by its fields, the other fields each between the bytes before and behind it. -/
theorem completionRecordReadsBack : Obligations.CompletionRecordReadsBack := by
  intro w
  obtain ⟨hphase, htype, hline, hzero⟩ := completionHeader_fields w.phase w.record.type w.record.line
  obtain ⟨head, hhead⟩ : ∃ head, [BitVec.ofNat 8 (w.phase.toNat + 2 * w.record.type.number + 8 * w.record.line.val),
    w.record.code.byte, w.record.node, 0] = head := ⟨_, rfl⟩
  have hbytes : w.bytes = head ++ leBytes 2 w.record.tag.toNat ++ leBytes 2 w.record.count.toNat ++
      leBytes 4 w.stamp.toNat ++ leBytes 4 w.record.detail.toNat := by rw [← hhead]; rfl
  have hlength : head.length = 4 := by rw [← hhead]; rfl
  refine ⟨?_, hphase, htype, hline, hzero, rfl, rfl, rfl, ?_, ?_, ?_, ?_, fun s c hc hw => ?_⟩
  · simp [hbytes, hlength, leBytes_length]
  · have h := field_append head (n := 2) (leBytes 2 w.record.count.toNat ++ leBytes 4 w.stamp.toNat ++
      leBytes 4 w.record.detail.toNat) w.record.tag.isLt
    simpa [hbytes, hlength] using h
  · have h := field_append (head ++ leBytes 2 w.record.tag.toNat) (n := 2) (leBytes 4 w.stamp.toNat ++
      leBytes 4 w.record.detail.toNat) w.record.count.isLt
    simpa [hbytes, hlength, leBytes_length] using h
  · have h := field_append (head ++ leBytes 2 w.record.tag.toNat ++ leBytes 2 w.record.count.toNat) (n := 4)
      (leBytes 4 w.record.detail.toNat) w.stamp.isLt
    simpa [hbytes, hlength, leBytes_length] using h
  · have h := field_append (head ++ leBytes 2 w.record.tag.toNat ++ leBytes 2 w.record.count.toNat ++
      leBytes 4 w.stamp.toNat) (n := 4) [] w.record.detail.isLt
    simpa [hbytes, hlength, leBytes_length] using h
  · rw [State.completionWrite_of_loaded hc hw]
    have haddr : (c.rings.get 9).slotAddr 9 s.producerIndex =
        (c.rings.get 9).base + BitVec.ofNat 64 (16 * (s.writer.producer.toNat % s.complSize)) := by
      rw [Nat.mul_comm]
      rfl
    rw [haddr]

/-! ## The master frame -/

/-- A frame's header names its node and its kind (11 section 11.6). -/
theorem frameHeader_reads (f : Frame) :
    nodeOf (f.header &&& 0x0F) = some f.node ∧ frameKind (f.header.toNat / 16) = some f.kind := by
  obtain ⟨kind, node, -, -, -⟩ := f
  unfold Frame.header
  dsimp only
  cases kind <;> revert node <;> decide

/-- A frame's control byte holds its toggle and its FIRST flag (11 section 11.6). -/
theorem frameControl_reads (f : Frame) : f.control.getLsbD 0 = f.toggle ∧ f.control.getLsbD 1 = f.first := by
  unfold Frame.control
  cases f.toggle <;> cases f.first <;> decide

/-- A node reads a master frame's bytes as that frame (R5). -/
theorem parseFrame_bytes (f : Frame) : parseFrame f.bytes = some f := by
  obtain ⟨hnode, hkind⟩ := frameHeader_reads f
  obtain ⟨htoggle, hfirst⟩ := frameControl_reads f
  have hbytes : f.bytes = f.header :: f.control :: (f.payload ++ [crc8 (f.header :: f.control :: f.payload)]) := rfl
  have hcrc : crc8 f.bytes.dropLast = f.bytes.getLastD 0 := by
    unfold Frame.bytes
    rw [List.dropLast_concat, List.getLastD_concat]
  have hlength : ¬(f.bytes.length < 3 ∨ crc8 f.bytes.dropLast ≠ f.bytes.getLastD 0) := by
    rw [not_or, not_not]
    exact ⟨by simp [hbytes], hcrc⟩
  unfold parseFrame
  dsimp only
  rw [if_neg hlength, hbytes]
  simp only [List.getD_cons_zero, List.getD_cons_succ, List.drop_succ_cons, List.drop_zero, List.dropLast_concat, hnode,
    hkind, htoggle, hfirst]

section
variable (n : NodeState) (will : NodeWill)

theorem NodeState.hear_frame (f : Frame) :
    n.hear will f.bytes = ((n.answer will f).1, (n.answer will f).2.map (Reply.bytes n.address)) := by
  unfold NodeState.hear
  rw [parseFrame_bytes]

theorem NodeState.answer_of_other {f : Frame} (h : f.node ≠ n.address) : n.answer will f = (n, none) := if_pos h

/-- A frame addressed to the node is always answered (R22). -/
theorem NodeState.answer_of_own {f : Frame} (h : f.node = n.address) : ∃ m r, n.answer will f = (m, some r) := by
  unfold NodeState.answer
  rw [if_neg (not_not.mpr h)]
  exact ⟨_, _, rfl⟩

/-- Bytes that fail the CRC check are ignored (R5, R22). -/
theorem NodeState.hear_of_crc_wrong {bytes : List Byte} (h : crc8 bytes.dropLast ≠ bytes.getLastD 0) :
    n.hear will bytes = (n, none) := by
  have hnone : parseFrame bytes = none := if_pos (.inr h)
  unfold NodeState.hear
  rw [hnone]

end

/-- Settles O40. -/
theorem judgeReadsWhatANodeSends : Obligations.JudgeReadsWhatANodeSends := by
  refine ⟨judge_received, fun n will => ⟨fun f => ⟨parseFrame_bytes f, fun hother => ?_, fun hown => ?_⟩, fun bytes hcrc =>
    n.hear_of_crc_wrong will hcrc⟩⟩
  · rw [n.hear_frame, n.answer_of_other will hother]
    rfl
  · obtain ⟨m, r, hanswer⟩ := n.answer_of_own will hown
    refine ⟨m, r, hanswer, ?_⟩
    rw [n.hear_frame, hanswer]
    rfl

end Sys2Proof.Machine
end
